-- ==== Sys2Proof/Word.lean ====
section
/-! DEFINITION. The word types and the spec's enumerations of lines, levels, modes, commands and results
(00_scope.md R10, R13; 10_state.md R21, R36, R43; 30_encoding.md R101, R102, R104). -/

namespace Sys2Proof

/-- A byte on the bus: an ATN command byte or a payload byte (R71). -/
abbrev Byte := BitVec 8

/-- An operation word (R106). -/
abbrev OpWord := BitVec 32

/-- The 16-bit result of `receive` and `receiveByte`, read as two's complement (R13, R105). -/
abbrev Word16 := BitVec 16

/-- The five lines (R21). -/
inductive Line where
  | ATN
  | CLOCK
  | DATA
  | SRQ
  | RESET
  deriving DecidableEq, Repr

/-- The four lines the unit can drive (R21). -/
inductive DLine where
  | ATN
  | CLOCK
  | DATA
  | SRQ
  deriving DecidableEq, Repr

/-- The logical level of a line: PULLED is low, asserted (R16, R21). -/
inductive Level where
  | RELEASED
  | PULLED
  deriving DecidableEq, Repr

/-- The driven mode of a drivable line (R21, R22). -/
inductive PinMode where
  | INPUT
  | OUTPUT
  deriving DecidableEq, Repr

/-- What an ATN command byte decodes to (R36, R101). -/
inductive Cmd where
  | GLOBAL
  | LISTEN
  | UNLISTEN
  | TALK
  | UNTALK
  | SECOND
  | CLOSE
  | OPEN
  | NONE
  deriving DecidableEq, Repr

/-- The result of one `service` call (R43, R44). -/
inductive BusState where
  | IDLE
  | ERROR
  | RESET
  | LISTEN
  | TALK
  | COMMAND
  deriving DecidableEq, Repr

end Sys2Proof
end

