-- ==== Sys2Proof/Syntax.lean ====
section
/-! DEFINITION. One constructor per row of spec/opcode_table.json: the operation words (R106, R107)
and the ATN command bytes (R90 to R95, R101). -/

namespace Sys2Proof

/-- The instructions. The first eighteen are operation words, the others ATN command bytes.
The six rows named NONE are the byte ranges 0x10–0x1F, 0x30–0x3E, 0x50–0x5E, 0x70–0x7F, 0x80–0xBF and
0xC0–0xDF, each with the bits its row leaves free. -/
inductive Instr where
  | pull (l : Line)
  | rel (l : Line)
  | mode (l : Line) (m : PinMode)
  | stat (l : Line)
  | rxb (device : Byte)
  | txb (byte : Byte) (isLast : Bool)
  | service
  | send (byte : Byte)
  | sends
  | sendeoi (byte : Byte)
  | sendfnf
  | recv (device : Byte) (hasDevice : Bool)
  | isen (device : Byte)
  | en (device : Byte)
  | dis (device : Byte)
  | rell (wait : Bool)
  | turnaround
  | undoTurnaround
  | atnUnlisten
  | atnUntalk
  | atnGlobal (device : BitVec 4)
  | atnListen (device : BitVec 4)
  | atnTalk (device : BitVec 4)
  | atnSecond (channel : BitVec 4)
  | atnClose (channel : BitVec 4)
  | atnOpen (channel : BitVec 4)
  | atnNone1 (low : BitVec 4)
  | atnNone3 (low : BitVec 4)
  | atnNone5 (low : BitVec 4)
  | atnNone7 (low : BitVec 4)
  | atnNone8 (low : BitVec 6)
  | atnNoneC (low : BitVec 5)
  deriving DecidableEq, Repr

end Sys2Proof
end

