-- ==== Sys2Proof/WellFormed.lean ====
section
/-! DEFINITION. Which terms of `Instr` are instructions: every operand type already has exactly the values
R107 admits, so the only checks are that 0x3F and 0x5F are not NONE (R92, R95). -/

namespace Sys2Proof

/-- 0x3F is UNLISTEN and 0x5F is UNTALK, so the NONE rows 0x30 and 0x50 exclude the low nibble 0xF (R92, R95).
An operation word with any operand of its type is well-formed; a device above 30, or line RESET,
is well-formed and faults when executed (R108). -/
def Instr.wf : Instr → Bool
  | .atnNone3 low => low != 0xF#4
  | .atnNone5 low => low != 0xF#4
  | .pull _ | .rel _ | .mode _ _ | .stat _ | .rxb _ | .txb _ _ | .service | .send _ | .sends | .sendeoi _
  | .sendfnf | .recv _ _ | .isen _ | .en _ | .dis _ | .rell _ | .turnaround | .undoTurnaround
  | .atnUnlisten | .atnUntalk | .atnGlobal _ | .atnListen _ | .atnTalk _ | .atnSecond _ | .atnClose _
  | .atnOpen _ | .atnNone1 _ | .atnNone7 _ | .atnNone8 _ | .atnNoneC _ => true

end Sys2Proof
end

