-- ==== Sys2Proof/Decode.lean ====
section
/-! DEFINITION. The decoder of operation words and of ATN command bytes, total and rejecting by name (R90 to R109),
and the encoder, written from the same tables. -/

namespace Sys2Proof

/-- Why a 32-bit word decodes to INVALID (R108). -/
inductive Reject where
  | reservedBits
  | badSelector
  | operandA
  | operandB
  | badLine
  | badMode
  | badBool
  deriving DecidableEq, Repr

/-! ### Codes (R102, R109) -/

def Line.code : Line → Byte
  | .ATN => 0
  | .CLOCK => 1
  | .DATA => 2
  | .SRQ => 3
  | .RESET => 4

def Line.ofCode (a : Byte) : Option Line :=
  match a.toNat with
  | 0 => some .ATN
  | 1 => some .CLOCK
  | 2 => some .DATA
  | 3 => some .SRQ
  | 4 => some .RESET
  | _ => none

def PinMode.code : PinMode → Byte
  | .INPUT => 0
  | .OUTPUT => 1

def PinMode.ofCode (b : Byte) : Option PinMode :=
  match b.toNat with
  | 0 => some .INPUT
  | 1 => some .OUTPUT
  | _ => none

def boolCode : Bool → Byte
  | false => 0
  | true => 1

def boolOfCode (b : Byte) : Option Bool :=
  match b.toNat with
  | 0 => some false
  | 1 => some true
  | _ => none

/-! ### Fields of an operation word (R106) -/

def OpWord.sel (w : OpWord) : Byte := w.extractLsb' 24 8

def OpWord.fieldA (w : OpWord) : Byte := w.extractLsb' 16 8

def OpWord.fieldB (w : OpWord) : Byte := w.extractLsb' 8 8

def OpWord.reserved (w : OpWord) : Byte := w.extractLsb' 0 8

/-- `sel`, `A`, `B` and eight zero bits, most significant first (R106). -/
def OpWord.make (sel a b : Byte) : OpWord := sel ++ a ++ b ++ 0#8

/-! ### Decoding an operation word (R107, R108) -/

/-- The table has 0 for `A`. -/
def noA (a : Byte) (k : Except Reject Instr) : Except Reject Instr :=
  if a = 0#8 then k else .error .operandA

/-- The table has 0 for `B`. -/
def noB (b : Byte) (k : Except Reject Instr) : Except Reject Instr :=
  if b = 0#8 then k else .error .operandB

/-- A field that must be a code of some enumeration. -/
def coded {α : Type} (x : Option α) (r : Reject) (k : α → Except Reject Instr) : Except Reject Instr :=
  match x with
  | some v => k v
  | none => .error r

/-- The row of R107 that `sel` selects, applied to the operand fields. -/
def decodeRow (sel a b : Byte) : Except Reject Instr :=
  match sel.toNat with
  | 0x01 => noB b (coded (Line.ofCode a) .badLine fun l => .ok (.pull l))
  | 0x02 => noB b (coded (Line.ofCode a) .badLine fun l => .ok (.rel l))
  | 0x03 => coded (Line.ofCode a) .badLine fun l => coded (PinMode.ofCode b) .badMode fun m => .ok (.mode l m)
  | 0x04 => noB b (coded (Line.ofCode a) .badLine fun l => .ok (.stat l))
  | 0x05 => noB b (.ok (.rxb a))
  | 0x06 => coded (boolOfCode b) .badBool fun last => .ok (.txb a last)
  | 0x10 => noA a (noB b (.ok .service))
  | 0x11 => noB b (.ok (.send a))
  | 0x12 => noA a (noB b (.ok .sends))
  | 0x13 => noB b (.ok (.sendeoi a))
  | 0x14 => noA a (noB b (.ok .sendfnf))
  | 0x15 => coded (boolOfCode b) .badBool fun has => .ok (.recv a has)
  | 0x16 => noB b (.ok (.isen a))
  | 0x17 => noB b (.ok (.en a))
  | 0x18 => noB b (.ok (.dis a))
  | 0x19 => noA a (coded (boolOfCode b) .badBool fun wait => .ok (.rell wait))
  | 0x20 => noA a (noB b (.ok .turnaround))
  | 0x21 => noA a (noB b (.ok .undoTurnaround))
  | _ => .error .badSelector

/-- The decoder of operation words: every 32-bit word decodes to one operation or is rejected (R108). -/
def decodeOp (w : OpWord) : Except Reject Instr :=
  if OpWord.reserved w = 0#8 then decodeRow (OpWord.sel w) (OpWord.fieldA w) (OpWord.fieldB w)
  else .error .reservedBits

/-! ### Decoding an ATN command byte (R92 to R95) -/

/-- The argument nibble, bits 3:0 (R90, R94). -/
def argNibble (b : Byte) : BitVec 4 := b.extractLsb' 0 4

/-- The command nibble, bits 7:4 (R90). -/
def cmdNibble (b : Byte) : BitVec 4 := b.extractLsb' 4 4

/-- `decode(b)` of R93 as an instruction: the exact codes first (R92), then the command nibble;
a code the table does not name is one of the NONE rows (R95). -/
def decodeAtn (b : Byte) : Instr :=
  if b = 0x3F#8 then .atnUnlisten
  else if b = 0x5F#8 then .atnUntalk
  else
    match (cmdNibble b).toNat with
    | 0x0 => .atnGlobal (argNibble b)
    | 0x1 => .atnNone1 (argNibble b)
    | 0x2 => .atnListen (argNibble b)
    | 0x3 => .atnNone3 (argNibble b)
    | 0x4 => .atnTalk (argNibble b)
    | 0x5 => .atnNone5 (argNibble b)
    | 0x6 => .atnSecond (argNibble b)
    | 0x7 => .atnNone7 (argNibble b)
    | 0xC | 0xD => .atnNoneC (b.extractLsb' 0 5)
    | 0xE => .atnClose (argNibble b)
    | 0xF => .atnOpen (argNibble b)
    | _ => .atnNone8 (b.extractLsb' 0 6)

/-- The command `decode(b)` returns (R93, R101). -/
def atnCmd (b : Byte) : Cmd :=
  if b = 0x3F#8 then .UNLISTEN
  else if b = 0x5F#8 then .UNTALK
  else
    match (cmdNibble b).toNat with
    | 0x0 => .GLOBAL
    | 0x2 => .LISTEN
    | 0x4 => .TALK
    | 0x6 => .SECOND
    | 0xE => .CLOSE
    | 0xF => .OPEN
    | _ => .NONE

/-! ### Encoding -/

/-- An encoded instruction: a 32-bit operation word or an 8-bit ATN command byte. -/
inductive Encoded where
  | opWord (w : OpWord)
  | atnByte (b : Byte)
  deriving DecidableEq, Repr

/-- The encoding of each row (R101, R107). -/
def encode : Instr → Encoded
  | .pull l => .opWord (OpWord.make 0x01 l.code 0)
  | .rel l => .opWord (OpWord.make 0x02 l.code 0)
  | .mode l m => .opWord (OpWord.make 0x03 l.code m.code)
  | .stat l => .opWord (OpWord.make 0x04 l.code 0)
  | .rxb d => .opWord (OpWord.make 0x05 d 0)
  | .txb b last => .opWord (OpWord.make 0x06 b (boolCode last))
  | .service => .opWord (OpWord.make 0x10 0 0)
  | .send b => .opWord (OpWord.make 0x11 b 0)
  | .sends => .opWord (OpWord.make 0x12 0 0)
  | .sendeoi b => .opWord (OpWord.make 0x13 b 0)
  | .sendfnf => .opWord (OpWord.make 0x14 0 0)
  | .recv d has => .opWord (OpWord.make 0x15 d (boolCode has))
  | .isen d => .opWord (OpWord.make 0x16 d 0)
  | .en d => .opWord (OpWord.make 0x17 d 0)
  | .dis d => .opWord (OpWord.make 0x18 d 0)
  | .rell wait => .opWord (OpWord.make 0x19 0 (boolCode wait))
  | .turnaround => .opWord (OpWord.make 0x20 0 0)
  | .undoTurnaround => .opWord (OpWord.make 0x21 0 0)
  | .atnUnlisten => .atnByte 0x3F
  | .atnUntalk => .atnByte 0x5F
  | .atnGlobal d => .atnByte (0x0#4 ++ d)
  | .atnListen d => .atnByte (0x2#4 ++ d)
  | .atnTalk d => .atnByte (0x4#4 ++ d)
  | .atnSecond c => .atnByte (0x6#4 ++ c)
  | .atnClose c => .atnByte (0xE#4 ++ c)
  | .atnOpen c => .atnByte (0xF#4 ++ c)
  | .atnNone1 x => .atnByte (0x1#4 ++ x)
  | .atnNone3 x => .atnByte (0x3#4 ++ x)
  | .atnNone5 x => .atnByte (0x5#4 ++ x)
  | .atnNone7 x => .atnByte (0x7#4 ++ x)
  | .atnNone8 x => .atnByte (0b10#2 ++ x)
  | .atnNoneC x => .atnByte (0b110#3 ++ x)

/-- The decoder over both formats; an ATN byte always decodes (R95). -/
def decode : Encoded → Except Reject Instr
  | .opWord w => decodeOp w
  | .atnByte b => .ok (decodeAtn b)

/-- The instruction the decoder reads from a table word of `nbits` bits: an ATN byte for a row of 8 bits,
an operation word otherwise. -/
def decodeTableWord (nbits w : Nat) : Option Instr :=
  if nbits ≤ 8 then some (decodeAtn (BitVec.ofNat 8 w))
  else
    match decodeOp (BitVec.ofNat 32 w) with
    | .ok i => some i
    | .error _ => none

end Sys2Proof
end

