-- ==== Sys2Proof/Config.lean ====
section
/-! DEFINITION. The parameters of R11, the free values and the timing constants of R12. -/

namespace Sys2Proof

/-- `SPIN_POLICY` (R11, R62, R63). UNBOUNDED is normative. -/
inductive SpinPolicy where
  | UNBOUNDED
  | BOUNDED
  deriving DecidableEq, Repr

/-- The level at which a byte handshake is run (R8): `T`, one rendezvous step, is normative;
`L`, the line-by-line refinement of 41_line_handshake.md, is informative. -/
inductive ByteLevel where
  | T
  | L
  deriving DecidableEq, Repr

/-- The parameters a model takes as arguments (R11), plus the byte level (R8).
`cmdMaxLessOne` and `rxErrLow` make `CMD_MAX ≥ 1` and `RX_ERR < 0` true of every value. -/
structure Params where
  cmdMaxLessOne : Nat
  rxErrLow : BitVec 15
  spinPolicy : SpinPolicy
  serviceChecksReset : Bool
  initialEnabled : BitVec 31
  byteLevel : ByteLevel
  deriving DecidableEq, Repr

/-- `CMD_MAX`, an integer at least 1 (R11, 92 D21). -/
def Params.cmdMax (p : Params) : Nat := p.cmdMaxLessOne + 1

/-- `RX_ERR`, a negative 16-bit value (R11, R105). -/
def Params.rxErr (p : Params) : Word16 := 1#1 ++ p.rxErrLow

/-- The open value of `CMD_MAX`, less one (R11: OPEN). Log 3. -/
opaque Config.cmdMaxLessOne : Nat

/-- The free value of 93 U3: whether a line of the unit is OUTPUT/PULLED (true) or INPUT/RELEASED (false)
after a failed byte transaction. The argument is the counter `State.draws`. Log 5. -/
opaque Config.failPulls : Nat → Bool

/-- The defaults of R11. Log 3, log 16. -/
def Params.default : Params where
  cmdMaxLessOne := Config.cmdMaxLessOne
  rxErrLow := BitVec.allOnes 15
  spinPolicy := .UNBOUNDED
  serviceChecksReset := false
  initialEnabled := 0#31
  byteLevel := .T

/-- The named intervals (R12). -/
inductive Interval where
  | T_LINE
  | T_BIT_SETUP
  | T_BIT_HOLD
  | T_BB
  | T_NE
  | T_TA
  | T_EOI
  | T_EI
  | T_FRAME
  | T_LIMIT
  | T_AT
  deriving DecidableEq, Repr

/-- The length of each interval: OPEN (R12, R317, 93 U9). No step reads it (R9). Log 19. -/
opaque Config.duration : Interval → Nat

/-- A row of the table of R159, in microseconds. -/
structure StandardInterval where
  atLeast : Option Nat
  typical : Option Nat
  atMost : Option Nat
  deriving DecidableEq, Repr

/-- The informative standard values of R159 (from general knowledge there); `T_LINE` has none.
No step reads them and `Config.duration` is not fixed to them. Log 19. -/
def Config.standard : Interval → StandardInterval
  | .T_LINE => ⟨none, none, none⟩
  | .T_AT => ⟨none, none, some 1000⟩
  | .T_NE => ⟨none, some 40, some 200⟩
  | .T_BIT_SETUP => ⟨some 20, some 70, none⟩
  | .T_BIT_HOLD => ⟨some 20, some 20, none⟩
  | .T_FRAME => ⟨none, none, some 1000⟩
  | .T_BB => ⟨some 100, none, none⟩
  | .T_EOI => ⟨some 200, some 250, none⟩
  | .T_EI => ⟨some 60, none, none⟩
  | .T_LIMIT => ⟨none, none, some 60⟩
  | .T_TA => ⟨some 80, none, none⟩

end Sys2Proof
end

