-- ==== Sys2Proof/Machine/State.lean ====
section
/-! DEFINITION. The machine's state (10_state.md), its faults and refusals, and its reset (R300). -/

namespace Sys2Proof.Machine

/-! ### The lines -/

/-- The two control registers of a drivable line (R22). -/
structure LineReg where
  mode : PinMode
  drive : Level
  deriving DecidableEq, Repr

/-- The unit's registers for the four drivable lines (R22). -/
structure UnitLines where
  atn : LineReg
  clock : LineReg
  data : LineReg
  srq : LineReg
  deriving DecidableEq, Repr

/-- The host's contribution to the five lines (R25). -/
structure HostLines where
  atn : Level
  clock : Level
  data : Level
  srq : Level
  reset : Level
  deriving DecidableEq, Repr

/-! ### The Data record, the result register and the latch -/

/-- The `Data` record (R34). `none` is ⊥, the spec's own value for a field never written (R13, R34). -/
structure DataRec where
  device : Option (BitVec 5)
  command : Option Cmd
  channel : Option (BitVec 4)
  content : Option (List Byte)
  valid : Bool
  deriving DecidableEq, Repr

/-- The latched primary command (R47). -/
inductive Prim where
  | LISTEN
  | TALK
  deriving DecidableEq, Repr

/-- A value of the caller's result register (R48). -/
inductive Result where
  | bus (b : BusState)
  | bool (b : Bool)
  | int16 (v : Word16)
  | level (l : Level)
  deriving DecidableEq, Repr

/-- The contract monitor (R50). -/
inductive Phase where
  | NONE
  | LISTEN
  | TALK
  | TALK_DONE
  | COMMAND
  deriving DecidableEq, Repr

/-! ### Model faults of the spec (R285) -/

/-- The fault reasons of R285. -/
inductive FaultReason where
  | F_STICKY_ERROR
  | F_CONTRACT
  | F_BAD_ARG
  | F_BAD_OP
  | F_REENTRY
  deriving DecidableEq, Repr

/-- The fault set (R52): which reasons it holds. -/
structure FaultSet where
  stickyError : Bool
  contract : Bool
  badArg : Bool
  badOp : Bool
  reentry : Bool
  deriving DecidableEq, Repr

/-! ### Sequencer state -/

/-- What follows the four release steps: the rest of `exit(S)`, or the wait step of `releaseLines` (R198, R254). -/
inductive AfterRelease where
  | exit (S : BusState)
  | lines (wait : Bool)
  deriving DecidableEq, Repr

/-- The control state (R45): the step the unit takes next. A value carries what its step still needs of
the operation's operands and locals (R170, R198, R232, R254). -/
inductive Ctl where
  | READY
  | SV_ENTRY_CLK
  | SV_ENTRY_DATA
  | SV_INIT
  | SV_RESET_CHECK
  | SV_PRIMARY
  | SV_DECODE1 (b : Byte)
  | SV_GATE
  | SV_SECONDARY
  | SV_DISPATCH
  | SV_TA
  | SV_LISTEN
  | SV_ACC_ATN
  | SV_ACC_RX
  | SV_ACC_END
  | SV_EXIT_RELEASE (S : BusState)
  | TA_WAIT
  | TA_REL_DATA
  | TA_D1
  | TA_PULL_CLK
  | TA_D2
  | UT_PULL_DATA
  | UT_D1
  | UT_REL_CLK
  | UT_D2
  | UT_WAIT
  | RL_CLK (k : AfterRelease)
  | RL_DATA (k : AfterRelease)
  | RL_ATN (k : AfterRelease)
  | RL_SRQ (k : AfterRelease)
  | RL_WAIT (wait : Bool)
  | FNF_REL_DATA
  | FNF_REL_CLK
  | FNF_DELAY
  | OP_SEND (b : Byte)
  | OP_SENDS (i : Nat)
  | OP_SENDEOI (b : Byte)
  | OP_RECV (device : Byte)
  | OP_PULL (l : Line)
  | OP_REL (l : Line)
  | OP_MODE (l : Line) (m : PinMode)
  | OP_STATUS (l : Line)
  | OP_RXB (device : Byte)
  | OP_TXB (b : Byte) (isLast : Bool)
  | OP_ISEN (d : Byte)
  | OP_EN (d : Byte)
  | OP_DIS (d : Byte)
  deriving DecidableEq, Repr

/-! ### Level L (41_line_handshake.md) -/

/-- The steps of `receiveByte_L` (R153). -/
inductive RxStep where
  | waitReady
  | relData
  | waitEoi
  | eoiPull
  | eoiHold
  | eoiRel
  | eoiEnd
  | bitRise (i : Fin 8)
  | bitSample (i : Fin 8)
  | bitFall (i : Fin 8)
  | ack
  deriving DecidableEq, Repr

/-- The steps of `sendByte_L` (R156). -/
inductive TxStep where
  | relClk
  | waitReady
  | eoiPulled
  | eoiReleased
  | neDelay
  | pullClk
  | bitData (i : Fin 8)
  | bitSetup (i : Fin 8)
  | bitRelClk (i : Fin 8)
  | bitHold (i : Fin 8)
  | bitPullClk (i : Fin 8)
  | bitRelData (i : Fin 8)
  | frameAck
  | betweenBytes
  deriving DecidableEq, Repr

/-- The level-L handshake in progress, with its locals; `idle` outside one and always at level T. -/
inductive Shake where
  | idle
  | rx (p : RxStep) (eoi : Bool) (acc : Byte)
  | tx (p : TxStep)
  deriving DecidableEq, Repr

/-! ### The two agents' choices (the model's own fields) -/

/-- The host's answer to `xfer_rx` (R67, R133). -/
inductive RxAnswer where
  | ok (b : Byte) (eoi : Bool)
  | fail
  deriving DecidableEq, Repr

/-- The host's answer to `xfer_tx` (R67, R137). -/
inductive TxAnswer where
  | ack
  | fail
  deriving DecidableEq, Repr

/-- One turn of the run: the unit moves, a host step (R67), a wait that ends in its timeout (R63, R151),
or a second caller's operation word (R290). Log 1, log 17. -/
inductive Turn where
  | unit
  | hSet (l : Line) (v : Level)
  | hTalk (a : RxAnswer)
  | hListen (a : TxAnswer)
  | timeout
  | intrude (w : OpWord)
  deriving DecidableEq, Repr

/-- One line of a caller program (R110): an operation word with its string operand (used by SENDS alone), or a
branch to a line number. Log 2. -/
inductive CallerLine where
  | op (w : OpWord) (str : List Byte)
  | br (target : Nat)
  | beq (v : Word16) (target : Nat)
  | blt0 (target : Nat)
  | beoi (target : Nat)
  | berr (target : Nat)
  deriving DecidableEq, Repr

/-! ### The state -/

/-- The whole machine: the spec's state (R20, R25, R50 to R53) and, after it, the model's own fields
(the parameters, the caller program and its position, the turns to come, level L's handshake,
the counter of free values). -/
structure State where
  lines : UnitLines
  host : HostLines
  flags : BitVec 8
  enabled : BitVec 31
  data : DataRec
  ctl : Ctl
  prim : Option Prim
  r : Option Result
  phase : Phase
  faults : FaultSet
  busy : Bool
  params : Params
  prog : List CallerLine
  pc : Nat
  script : List Turn
  shake : Shake
  draws : Nat
  deriving DecidableEq, Repr

/-- The ways a step stops the machine. -/
inductive Fault where
  /-- Raised by `step` in a state whose fault set is not empty: "the unit takes no further step" (R285). Safe. Log 7. -/
  | quiescent
  /-- Raised where a procedure or a caller's branch reads ⊥ ("a model reads ⊥ as a fault", R13, 93 U4). Safe. Log 10. -/
  | readUnwritten
  deriving DecidableEq, Repr

/-- The ways a step has no meaning. -/
inductive Refusal where
  /-- Answered by `exec` for an instruction with no meaning yet. Safe. -/
  | notModelled (mnemonic : String)
  /-- Answered by a meaning asked for a step at a control state that is not one of its own: an ATN code
  where no procedure reads a code byte. `step` never asks for it. Safe. Log 14. -/
  | outOfPlace
  deriving DecidableEq, Repr

/-- INPUT and RELEASED: the idle register of a line (R22, R27). -/
def LineReg.idle : LineReg := ⟨.INPUT, .RELEASED⟩

/-- The four lines idle (R27). -/
def UnitLines.idle : UnitLines := ⟨.idle, .idle, .idle, .idle⟩

/-- OUTPUT and PULLED: the register of a line the unit pulls (R120). -/
def LineReg.pulled : LineReg := ⟨.OUTPUT, .PULLED⟩

/-- No line pulled by the host (the start of a run in 95_test_vectors.md S0). Log 4. -/
def HostLines.released : HostLines := ⟨.RELEASED, .RELEASED, .RELEASED, .RELEASED, .RELEASED⟩

/-- No reason. -/
def FaultSet.empty : FaultSet := ⟨false, false, false, false, false⟩

/-- The state after construction with parameters `p` and the host's lines at `host` (R300, R25). -/
def State.construct (p : Params) (host : HostLines) : State where
  lines := .idle
  host := host
  flags := 0#8
  enabled := p.initialEnabled
  data := ⟨none, none, none, none, false⟩
  ctl := .READY
  prim := none
  r := none
  phase := .NONE
  faults := .empty
  busy := false
  params := p
  prog := []
  pc := 0
  script := []
  shake := .idle
  draws := 0

/-- The machine right after reset (R300), with the default parameters (R11) and the host releasing every line. Log 2, log 3, log 4. -/
def State.reset : State := .construct .default .released

end Sys2Proof.Machine
end

