-- ==== Sys2Proof/Machine/Flags.lean ====
section
/-! DEFINITION. The Protocol Flags register: reading its bits and the three forms of writing it (R28 to R33). -/

namespace Sys2Proof.Machine

/-- `flags.ERROR`, bit 0 (R28). -/
def State.error (s : State) : Bool := s.flags.getLsbD 0

/-- `flags.EOI`, bit 1 (R28). -/
def State.eoi (s : State) : Bool := s.flags.getLsbD 1

/-- `flags.JIFFY_ACTIVE`, bit 2 (R28). Nothing sets it (R33). -/
def State.jiffyActive (s : State) : Bool := s.flags.getLsbD 2

/-- `flags.ERROR <- 1` (R30). -/
def flagsSetError (f : BitVec 8) : BitVec 8 := f ||| 0x01#8

/-- `flags.EOI <- v` (R30). -/
def flagsWriteEoi (v : Bool) (f : BitVec 8) : BitVec 8 := if v then f ||| 0x02#8 else f &&& 0xFD#8

def State.setError (s : State) : State := { s with flags := flagsSetError s.flags }

def State.writeEoi (v : Bool) (s : State) : State := { s with flags := flagsWriteEoi v s.flags }

/-- `flags <- CLEAR` (R28, R30). -/
def State.clearFlags (s : State) : State := { s with flags := 0#8 }

end Sys2Proof.Machine
end

