-- ==== Sys2Proof/Machine/Operands.lean ====
section
/-! DEFINITION. The operand forms: a line, a device address, the caller's string, and the numbers by which a caller names a
result (R102, R104, R107, R109, R110). -/

namespace Sys2Proof.Machine

/-- The drivable line an operand names; RESET is none (R21). -/
def lineDrivable : Line → Option DLine
  | .ATN => some .ATN
  | .CLOCK => some .CLOCK
  | .DATA => some .DATA
  | .SRQ => some .SRQ
  | .RESET => none

/-- `d ≤ DEVICE_MAX` (R10, R253). -/
def deviceInRange (d : Byte) : Bool := d.toNat ≤ 30

/-- Bit `d` of the Enabled-Device Set (R41). -/
def State.isEnabled (s : State) (d : Nat) : Bool := s.enabled.getLsbD d

/-- The mask of bit `d` of the Enabled-Device Set (R41). -/
def deviceBit (d : Nat) : BitVec 31 := 1#31 <<< d

/-- The string operand of the caller line in progress, given out of band (R106, R110). Log 23. -/
def State.callerString (s : State) : List Byte :=
  match s.prog[s.pc]? with
  | some (.op _ str) => str
  | _ => []

/-- `zext_16(b)` (R13). -/
def zext16 (b : Byte) : Word16 := b.setWidth 16

/-- A received value's byte, bits 7:0 (R134). -/
def lowByte (v : Word16) : Byte := v.setWidth 8

/-- The number of a BusState (R104). -/
def busStateCode : BusState → Word16
  | .IDLE => 0
  | .ERROR => 1
  | .RESET => 2
  | .LISTEN => 3
  | .TALK => 4
  | .COMMAND => 5

/-- The number of a level (R102). -/
def levelCode : Level → Word16
  | .RELEASED => 0
  | .PULLED => 1

/-- The number by which `BEQ` compares a result (R102, R104, R109, R110). Log 11. -/
def resultCode : Result → Word16
  | .bus b => busStateCode b
  | .bool b => if b then 1 else 0
  | .int16 v => v
  | .level l => levelCode l

end Sys2Proof.Machine
end

