-- ==== Sys2Proof/Machine/Ops.lean ====
section
/-! DEFINITION. The operations the meanings share: lines (R22 to R24, R120 to R127), raising a fault (R285), the checks of an
issued operation (R281), waits (R62, R63, R151), returning (R46, R48), the exit of `service` (R198), the
operation the block's own procedure runs at each step (R45, R170 to R256), and the ATN decode positions (R175, R179, R200). -/

namespace Sys2Proof.Machine

/-- What a meaning answers. -/
abbrev Out := Host.Outcome State Fault Refusal

/-! ### The fault set (R52, R285): the one way a fault is taken. There is no return from one (R285). -/

def FaultSet.add (r : FaultReason) (f : FaultSet) : FaultSet :=
  match r with
  | .F_STICKY_ERROR => { f with stickyError := true }
  | .F_CONTRACT => { f with contract := true }
  | .F_BAD_ARG => { f with badArg := true }
  | .F_BAD_OP => { f with badOp := true }
  | .F_REENTRY => { f with reentry := true }

def FaultSet.has (r : FaultReason) (f : FaultSet) : Bool :=
  match r with
  | .F_STICKY_ERROR => f.stickyError
  | .F_CONTRACT => f.contract
  | .F_BAD_ARG => f.badArg
  | .F_BAD_OP => f.badOp
  | .F_REENTRY => f.reentry

def FaultSet.nonempty (f : FaultSet) : Bool :=
  f.stickyError || f.contract || f.badArg || f.badOp || f.reentry

def State.addFault (r : FaultReason) (s : State) : State := { s with faults := s.faults.add r }

/-- `raise Fault(r)`: the reason is added and nothing else changes (R285). Log 7. -/
def raise (r : FaultReason) (s : State) : Out := .next (s.addFault r)

/-- The reasons' numbers (R285). -/
def FaultReason.code : FaultReason → Nat
  | .F_STICKY_ERROR => 1
  | .F_CONTRACT => 2
  | .F_BAD_ARG => 3
  | .F_BAD_OP => 4
  | .F_REENTRY => 5

/-- The numbers of the reasons a fault set holds, rising (R52, R285). -/
def FaultSet.codes (f : FaultSet) : List Nat :=
  ([FaultReason.F_STICKY_ERROR, .F_CONTRACT, .F_BAD_ARG, .F_BAD_OP, .F_REENTRY].filter f.has).map FaultReason.code

/-! ### Reading a field that may be ⊥ -/

/-- "a model reads `⊥` as a fault, never as a value" (R13, 92 D18, 93 U4). Log 10. -/
def bottomRead : Out := .fault .readUnwritten

/-- A read of a field of `D`, of `prim` or of `r`, which start as ⊥ (R34, R47, R48). -/
def readField {α : Type} (x : Option α) (k : α → Out) : Out :=
  match x with
  | none => bottomRead
  | some v => k v

/-! ### Lines -/

def UnitLines.get (u : UnitLines) : DLine → LineReg
  | .ATN => u.atn
  | .CLOCK => u.clock
  | .DATA => u.data
  | .SRQ => u.srq

def UnitLines.put (l : DLine) (x : LineReg) (u : UnitLines) : UnitLines :=
  match l with
  | .ATN => { u with atn := x }
  | .CLOCK => { u with clock := x }
  | .DATA => { u with data := x }
  | .SRQ => { u with srq := x }

def HostLines.get (h : HostLines) : Line → Level
  | .ATN => h.atn
  | .CLOCK => h.clock
  | .DATA => h.data
  | .SRQ => h.srq
  | .RESET => h.reset

def HostLines.put (l : Line) (v : Level) (h : HostLines) : HostLines :=
  match l with
  | .ATN => { h with atn := v }
  | .CLOCK => { h with clock := v }
  | .DATA => { h with data := v }
  | .SRQ => { h with srq := v }
  | .RESET => { h with reset := v }

/-- A register's contribution: PULLED only when the line is OUTPUT and its drive PULLED (R23). -/
def LineReg.contrib (x : LineReg) : Level :=
  match x.mode, x.drive with
  | .OUTPUT, .PULLED => .PULLED
  | _, _ => .RELEASED

/-- The unit's contribution to a drivable line (R23). -/
def State.contrib (s : State) (l : DLine) : Level := (s.lines.get l).contrib

/-- The wired-OR of two contributions (R24). -/
def wiredOr : Level → Level → Level
  | .RELEASED, .RELEASED => .RELEASED
  | _, _ => .PULLED

/-- The bus level of a line (R24). -/
def State.level (s : State) (l : Line) : Level :=
  match lineDrivable l with
  | some d => wiredOr (s.contrib d) (s.host.get l)
  | none => s.host.get l

/-- `pull(l)` on a drivable line (R120). -/
def State.pull (l : DLine) (s : State) : State := { s with lines := s.lines.put l .pulled }

/-- `release(l)` on a drivable line (R122). -/
def State.release (l : DLine) (s : State) : State := { s with lines := s.lines.put l .idle }

/-- `set_pin_mode(l, m)` on a drivable line: `drive` is unchanged (R125). -/
def State.setPinMode (l : DLine) (m : PinMode) (s : State) : State :=
  { s with lines := s.lines.put l { s.lines.get l with mode := m } }

/-- Listener posture: CLOCK released, DATA pulled (R16, R132). -/
def State.listenerPosture (s : State) : State := (s.release .CLOCK).pull .DATA

/-- Talker posture: CLOCK pulled, DATA released (R16, R136). -/
def State.talkerPosture (s : State) : State := (s.pull .CLOCK).release .DATA

/-- The free value numbered `n` of a line's register after a failure: INPUT/RELEASED or OUTPUT/PULLED (R132, 93 U3). Log 5. -/
def drawReg (n : Nat) : LineReg := if Config.failPulls n then .pulled else .idle

/-- One line of the failure draw (R132, 93 U3). Log 5. -/
def State.drawLine (l : DLine) (s : State) : State :=
  { s with lines := s.lines.put l (drawReg s.draws), draws := s.draws + 1 }

/-- The failure draw of CLOCK and DATA (R132, R136). -/
def State.drawPosture (s : State) : State := (s.drawLine .CLOCK).drawLine .DATA

/-- `H_SET(l, v)` (R67). -/
def State.hostSet (l : Line) (v : Level) (s : State) : State := { s with host := s.host.put l v }

/-! ### Moving on, returning, waiting -/

/-- The next step of the procedure is `c` (R46). -/
def goto (c : Ctl) (s : State) : Out := .next { s with ctl := c }

/-- The operation returns with `r` unchanged: `ctl` is READY again (R46, R48, R53) and control passes to the caller's next
line (R17). Log 2. -/
def State.finish (s : State) : State := { s with ctl := .READY, busy := false, pc := s.pc + 1 }

/-- The operation returns `v` in `r` (R48). -/
def State.ret (v : Result) (s : State) : State := { s.finish with r := some v }

/-- A primitive issued by the block itself returns: no caller line has been completed. Log 13. -/
def State.finishInternal (s : State) : State := { s with ctl := .READY, busy := false }

/-- `wait_until(l, v)` (R62): goes on when the level is seen; else holds, which changes nothing; under
BOUNDED a false condition may instead end in the timeout step, which sets ERROR (R63). Log 1, log 8. -/
def waitUntil (l : Line) (v : Level) (seen late : State → Out) (s : State) : Out :=
  if s.level l = v then seen s
  else
    match s.params.spinPolicy, s.script with
    | .BOUNDED, .timeout :: rest => late { s with script := rest }.setError
    | _, _ => .next s

/-- A wait with no limit (R153, R156: "no limit"). -/
def waitFree (l : Line) (v : Level) (seen : State → Out) (s : State) : Out :=
  if s.level l = v then seen s else .next s

/-- `wait_within(l, v, T)` of level L: a timeout may be taken at any step where the condition is false (R151). -/
def waitWithin (l : Line) (v : Level) (seen late : State → Out) (s : State) : Out :=
  if s.level l = v then seen s
  else
    match s.script with
    | .timeout :: rest => late { s with script := rest }
    | _ => .next s

/-! ### Bus-idle transition and the exit of `service` -/

/-- The end of a bus-idle transition: `D.valid <- false`, `phase <- NONE` (R255). -/
def State.busIdle (s : State) : State := { s with data := { s.data with valid := false }, phase := .NONE }

/-- The phase a result leaves (R51). -/
def busStatePhase : BusState → Phase
  | .LISTEN => .LISTEN
  | .TALK => .TALK
  | .COMMAND => .COMMAND
  | .IDLE | .ERROR | .RESET => .NONE

/-- `exit(S)` for LISTEN, TALK and COMMAND: the lines are left as they are (R198). -/
def State.dataExit (S : BusState) (s : State) : State :=
  State.ret (.bus S) { s with data := { s.data with valid := true }, phase := busStatePhase S }

/-- `exit(S)` (R198): IDLE, ERROR and RESET first run `idle_release` (R255) and end at SV_EXIT_RELEASE. Log 15. -/
def exitService (S : BusState) (s : State) : Out :=
  match S with
  | .IDLE | .ERROR | .RESET => goto (.RL_CLK (.exit S)) s
  | .LISTEN | .TALK | .COMMAND => .next (s.dataExit S)

/-- The end of `exit(S)` after `idle_release` (R198). -/
def State.idleExit (S : BusState) (s : State) : State := s.busIdle.ret (.bus S)

/-! ### What the block's own procedure runs at each step -/

/-- The device operand of a receive inside `service`: `D.device` (R178, R200); reading ⊥ gives none. -/
def State.rxbOfDevice (s : State) : Option Instr := s.data.device.map fun d => .rxb (d.setWidth 8)

/-- The operation word, or the ATN code, that the unit runs at `ctl`, from the procedures' pseudocode: the line actions and
byte handshakes are the internal operations PULL, REL, RXB and TXB, the call and the waits and delays of turnaround and
undo-turnaround are TURNAROUND and UNDO_TURNAROUND, the decode of the primary byte is that byte's own code, and every
other step belongs to the caller's operation. None at READY (the caller's turn) and where an operand is ⊥. Log 12. -/
def State.unitOp (s : State) : Option Instr :=
  match s.ctl with
  | .READY => none
  | .SV_ENTRY_CLK => some (.rel .CLOCK)
  | .SV_ENTRY_DATA => some (.pull .DATA)
  | .SV_INIT | .SV_RESET_CHECK | .SV_GATE | .SV_DISPATCH | .SV_LISTEN | .SV_ACC_ATN | .SV_ACC_END
  | .SV_EXIT_RELEASE _ => some .service
  | .SV_PRIMARY => some (.rxb 0)
  | .SV_DECODE1 b => some (decodeAtn b)
  | .SV_SECONDARY | .SV_ACC_RX => s.rxbOfDevice
  | .SV_TA | .TA_WAIT | .TA_D1 | .TA_D2 => some .turnaround
  | .TA_REL_DATA => some (.rel .DATA)
  | .TA_PULL_CLK => some (.pull .CLOCK)
  | .UT_PULL_DATA | .UT_D1 | .UT_D2 | .UT_WAIT => some .undoTurnaround
  | .UT_REL_CLK => some (.rel .CLOCK)
  | .RL_CLK _ => some (.rel .CLOCK)
  | .RL_DATA _ => some (.rel .DATA)
  | .RL_ATN _ => some (.rel .ATN)
  | .RL_SRQ _ => some (.rel .SRQ)
  | .RL_WAIT w => some (.rell w)
  | .FNF_REL_DATA => some (.rel .DATA)
  | .FNF_REL_CLK => some (.rel .CLOCK)
  | .FNF_DELAY => some .sendfnf
  | .OP_SEND b => some (.txb b false)
  | .OP_SENDS i =>
    match s.callerString[i]? with
    | some b => some (.txb b false)
    | none => some .sends
  | .OP_SENDEOI b => some (.txb b true)
  | .OP_RECV d => some (.rxb d)
  | .OP_PULL l => some (.pull l)
  | .OP_REL l => some (.rel l)
  | .OP_MODE l m => some (.mode l m)
  | .OP_STATUS l => some (.stat l)
  | .OP_RXB d => some (.rxb d)
  | .OP_TXB b last => some (.txb b last)
  | .OP_ISEN d => some (.isen d)
  | .OP_EN d => some (.en d)
  | .OP_DIS d => some (.dis d)

/-- The step after a line action (R46, R170, R220, R225, R237, R255). -/
def afterLine (s : State) : Out :=
  match s.ctl with
  | .SV_ENTRY_CLK => goto .SV_ENTRY_DATA s
  | .SV_ENTRY_DATA => goto .SV_INIT s
  | .TA_REL_DATA => goto .TA_D1 s
  | .TA_PULL_CLK => goto .TA_D2 s
  | .UT_PULL_DATA => goto .UT_D1 s
  | .UT_REL_CLK => goto .UT_D2 s
  | .RL_CLK k => goto (.RL_DATA k) s
  | .RL_DATA k => goto (.RL_ATN k) s
  | .RL_ATN k => goto (.RL_SRQ k) s
  | .RL_SRQ (.exit S) => goto (.SV_EXIT_RELEASE S) s
  | .RL_SRQ (.lines w) => goto (.RL_WAIT w) s
  | .FNF_REL_DATA => goto .FNF_REL_CLK s
  | .FNF_REL_CLK => goto .FNF_DELAY s
  | .OP_PULL _ | .OP_REL _ => .next s.finishInternal
  | .READY | .SV_INIT | .SV_RESET_CHECK | .SV_PRIMARY | .SV_DECODE1 _ | .SV_GATE | .SV_SECONDARY | .SV_DISPATCH
  | .SV_TA | .SV_LISTEN | .SV_ACC_ATN | .SV_ACC_RX | .SV_ACC_END | .SV_EXIT_RELEASE _ | .TA_WAIT | .TA_D1 | .TA_D2
  | .UT_D1 | .UT_D2 | .UT_WAIT | .RL_WAIT _ | .FNF_DELAY | .OP_SEND _ | .OP_SENDS _ | .OP_SENDEOI _ | .OP_RECV _
  | .OP_MODE _ _ | .OP_STATUS _ | .OP_RXB _ | .OP_TXB _ _ | .OP_ISEN _ | .OP_EN _ | .OP_DIS _ =>
    .refused .outOfPlace

/-- The interval a delay step at level T stands for (R9, R220, R225, R237). -/
def Ctl.interval : Ctl → Option Interval
  | .TA_D1 | .TA_D2 | .UT_D1 | .UT_D2 => some .T_TA
  | .FNF_DELAY => some .T_BB
  | _ => none

/-! ### Issuing an operation (R281) -/

/-- An operation is in progress (R53). -/
def State.inProgress (s : State) : Bool := s.busy || s.ctl != .READY

/-- The conditions R281 checks when an operation is issued, after the decode. -/
structure Admission where
  /-- the caller may issue it now (R51, R287) -/
  contract : Bool
  /-- its arguments are in range (R288) -/
  args : Bool
  /-- it starts with a byte transaction while `flags.ERROR = 1` (R286) -/
  sticky : Bool

/-- Operation `i` at state `s`. Where the block's own procedure runs `i` at this step, the step is run. Otherwise `i` has
been issued by a caller: the first check of R281 that fails raises its fault and nothing else happens, and an
operation that passes them all starts at `first` and takes its first step. Log 6, log 12. -/
def operate (i : Instr) (a : Admission) (first : Ctl) (run : State → Out) (s : State) : Out :=
  if s.unitOp = some i then run s
  else if s.inProgress then raise .F_REENTRY s
  else if !a.contract then raise .F_CONTRACT s
  else if !a.args then raise .F_BAD_ARG s
  else if a.sticky then raise .F_STICKY_ERROR s
  else run { s with ctl := first, busy := true }

/-- An operation the caller never issues (R107, R124, R130, R287). -/
def internalOnly : Admission := ⟨false, true, false⟩

/-- An operation admitted in every phase (R51). -/
def everyPhase : Admission := ⟨true, true, false⟩

/-- An operation admitted in phase `p` only (R51). -/
def State.phaseOnly (s : State) (p : Phase) : Admission := ⟨s.phase = p, true, false⟩

/-- A byte operation admitted in phase `p` only, with the sticky-error check (R131, R286). -/
def State.bytePhase (s : State) (p : Phase) : Admission := ⟨s.phase = p, true, s.error⟩

/-- An operation on a device address, admitted in every phase (R51, R253). -/
def deviceOp (d : Byte) : Admission := ⟨true, deviceInRange d, false⟩

/-! ### ATN codes by position -/

/-- The argument of a GLOBAL, LISTEN or TALK primary is a device (R93, R175). -/
def cmdTakesDevice : Cmd → Bool
  | .GLOBAL | .LISTEN | .TALK => true
  | .UNLISTEN | .UNTALK | .SECOND | .CLOSE | .OPEN | .NONE => false

/-- The argument of a SECOND, CLOSE or OPEN primary is a channel (R93, R175). -/
def cmdTakesChannel : Cmd → Bool
  | .SECOND | .CLOSE | .OPEN => true
  | .UNLISTEN | .UNTALK | .GLOBAL | .LISTEN | .TALK | .NONE => false

/-- The fields a primary byte writes (R175). -/
def DataRec.primary (cmd : Cmd) (b : Byte) (d : DataRec) : DataRec :=
  { d with
    command := some cmd
    device := if cmdTakesDevice cmd then some ((argNibble b).setWidth 5) else d.device
    channel := if cmdTakesChannel cmd then some (argNibble b) else d.channel }

/-- The fields a secondary byte writes (R179). -/
def DataRec.secondary (cmd : Cmd) (b : Byte) (d : DataRec) : DataRec :=
  { d with command := some cmd, channel := some (argNibble b), content := some [] }

/-- SV_DECODE1: UNLISTEN and UNTALK end the cycle with IDLE, every other code goes to the gate (R175, R176). -/
def atnPrimary (cmd : Cmd) (b : Byte) (s : State) : Out :=
  match cmd with
  | .UNLISTEN | .UNTALK => exitService .IDLE { s with data := s.data.primary cmd b }
  | .GLOBAL | .LISTEN | .TALK | .SECOND | .CLOSE | .OPEN | .NONE =>
    goto .SV_GATE { s with data := s.data.primary cmd b }

/-- The rest of SV_SECONDARY once its byte has arrived (R179). -/
def atnSecondary (cmd : Cmd) (b : Byte) (s : State) : Out :=
  goto .SV_DISPATCH { s with data := s.data.secondary cmd b }

/-- The rest of SV_ACC_RX once its byte has arrived: terminator, carriage return, overflow, append, in that order
(R205, R206, R207, R280). -/
def accumulateByte (c : Byte) (s : State) : Out :=
  if c = 0x3F#8 then goto .SV_ACC_END s
  else if c = 0x0D#8 then goto .SV_ACC_ATN s
  else
    readField s.data.content fun str =>
      if str.length = s.params.cmdMax then exitService .ERROR s.setError
      else goto .SV_ACC_ATN { s with data := { s.data with content := some (str ++ [c]) } }

/-- An ATN code byte at the place where `service` reads it: as the primary byte, as the secondary byte, or as a
byte of the command string, where 0x3F ends the string and any other byte is text (R96, R100). Log 14. -/
def atnCode (cmd : Cmd) (b : Byte) (s : State) : Out :=
  match s.ctl with
  | .SV_DECODE1 _ => atnPrimary cmd b s
  | .SV_SECONDARY => atnSecondary cmd b s
  | .SV_ACC_RX => accumulateByte b s
  | _ => .refused .outOfPlace

end Sys2Proof.Machine
end

