-- ==== Sys2Proof/Machine/Procedures.lean ====
section
/-! DEFINITION. The steps of the block's procedures, each as its pseudocode writes it: the byte transactions at level T
(R132 to R137) and at level L (R153, R156), the own steps of `service` (R170) and of the listen sub-state-machine (R200),
turnaround and undo-turnaround (R220, R225). The meanings call them. -/

namespace Sys2Proof.Machine

/-! ### Byte transactions: what follows one -/

/-- What the procedure does with the value `receiveByte` returned, by the step it was called from
(R174, R178, R179, R200, R240). -/
def afterRx (v : Word16) (s : State) : Out :=
  match s.ctl with
  | .SV_PRIMARY => if v.slt 0 then exitService .ERROR s else goto (.SV_DECODE1 (lowByte v)) s
  | .SV_SECONDARY =>
    if v.slt 0 then exitService .ERROR s else atnSecondary (atnCmd (lowByte v)) (lowByte v) s
  | .SV_ACC_RX => if v.slt 0 then exitService .ERROR s else accumulateByte (lowByte v) s
  | .OP_RECV _ => .next (s.ret (.int16 v))
  | .OP_RXB _ => .next { s.finishInternal with r := some (.int16 v) }
  | _ => .refused .outOfPlace

/-- What the procedure does with the bool `sendByte` returned, by the step it was called from (R230, R232, R234). -/
def afterTx (ok : Bool) (s : State) : Out :=
  match s.ctl with
  | .OP_SEND _ => .next (s.ret (.bool ok))
  | .OP_SENDS i =>
    if ok && i + 1 < s.callerString.length then goto (.OP_SENDS (i + 1)) s else .next (s.ret (.bool ok))
  | .OP_SENDEOI _ =>
    if ok then goto .UT_PULL_DATA s else .next (State.ret (.bool false) { s with phase := .TALK_DONE })
  | .OP_TXB _ _ => .next { s.finishInternal with r := some (.bool ok) }
  | _ => .refused .outOfPlace

/-! ### Byte transactions at level T -/

/-- `receiveByte` once the host has answered (R132, R133). -/
def rxAnswered (a : RxAnswer) (s : State) : Out :=
  match a with
  | .ok b eoi => afterRx (zext16 b) (s.writeEoi eoi).listenerPosture
  | .fail => afterRx s.params.rxErr (s.setError.writeEoi false).drawPosture

/-- `sendByte` once the host has answered (R136, R137). -/
def txAnswered (isLast : Bool) (a : TxAnswer) (s : State) : Out :=
  match a with
  | .ack => afterTx true (s.writeEoi isLast).talkerPosture
  | .fail => afterTx false (s.setError.writeEoi false).drawPosture

/-- `xfer_rx`: fires in the step in which the host answers, else holds (R133). -/
def rxRendezvous (s : State) : Out :=
  match s.script with
  | .hTalk a :: rest => rxAnswered a { s with script := rest }
  | _ => .next s

/-- `xfer_tx` (R137). -/
def txRendezvous (isLast : Bool) (s : State) : Out :=
  match s.script with
  | .hListen a :: rest => txAnswered isLast a { s with script := rest }
  | _ => .next s

/-! ### Byte transactions at level L -/

/-- The level-L receive is at step `p` next. -/
def rxGoto (p : RxStep) (eoi : Bool) (acc : Byte) (s : State) : Out := .next { s with shake := .rx p eoi acc }

/-- The level-L send is at step `p` next. -/
def txGoto (p : TxStep) (s : State) : Out := .next { s with shake := .tx p }

/-- `fail:` of R153: no line is touched (R150). -/
def rxFailLine (s : State) : Out := afterRx s.params.rxErr { s.setError.writeEoi false with shake := .idle }

/-- `fail:` of R156. -/
def txFailLine (s : State) : Out := afterTx false { s.setError.writeEoi false with shake := .idle }

/-- The bit after `i` in wire order, least significant first (R152). -/
def nextBit (i : Fin 8) : Option (Fin 8) := if h : i.val + 1 < 8 then some ⟨i.val + 1, h⟩ else none

/-- `b OR (1 << i)` where DATA is RELEASED at the sample (R152, R153). -/
def sampleBit (l : Level) (i : Fin 8) (acc : Byte) : Byte :=
  match l with
  | .RELEASED => acc ||| (1#8 <<< i.val)
  | .PULLED => acc

/-- One step of `receiveByte_L` (R153, R154, R155). Log 16. -/
def rxLineStep (p : RxStep) (eoi : Bool) (acc : Byte) (s : State) : Out :=
  match p with
  | .waitReady => waitFree .CLOCK .RELEASED (rxGoto .relData false 0) s
  | .relData => rxGoto .waitEoi eoi acc (s.release .DATA)
  | .waitEoi => waitWithin .CLOCK .PULLED (rxGoto (.bitRise 0) eoi acc) (rxGoto .eoiPull true acc) s
  | .eoiPull => rxGoto .eoiHold eoi acc (s.pull .DATA)
  | .eoiHold => rxGoto .eoiRel eoi acc s
  | .eoiRel => rxGoto .eoiEnd eoi acc (s.release .DATA)
  | .eoiEnd => waitWithin .CLOCK .PULLED (rxGoto (.bitRise 0) eoi acc) rxFailLine s
  | .bitRise i => waitWithin .CLOCK .RELEASED (rxGoto (.bitSample i) eoi acc) rxFailLine s
  | .bitSample i => rxGoto (.bitFall i) eoi (sampleBit (s.level .DATA) i acc) s
  | .bitFall i =>
    waitWithin .CLOCK .PULLED
      (fun t => match nextBit i with
        | some j => rxGoto (.bitRise j) eoi acc t
        | none => rxGoto .ack eoi acc t)
      rxFailLine s
  | .ack => afterRx (zext16 acc) { (s.pull .DATA).writeEoi eoi with shake := .idle }

/-- Put bit `i` of the byte on DATA: 1 is released, 0 is pulled (R152, R156). -/
def putBit (byte : Byte) (i : Fin 8) (s : State) : State :=
  if byte.getLsbD i.val then s.release .DATA else s.pull .DATA

/-- One step of `sendByte_L` (R156, R157, R158). Log 16. -/
def txLineStep (byte : Byte) (isLast : Bool) (p : TxStep) (s : State) : Out :=
  match p with
  | .relClk => txGoto .waitReady (s.release .CLOCK)
  | .waitReady => waitFree .DATA .RELEASED (txGoto (if isLast then .eoiPulled else .neDelay)) s
  | .eoiPulled => waitWithin .DATA .PULLED (txGoto .eoiReleased) txFailLine s
  | .eoiReleased => waitWithin .DATA .RELEASED (txGoto .pullClk) txFailLine s
  | .neDelay => txGoto .pullClk s
  | .pullClk => txGoto (.bitData 0) (s.pull .CLOCK)
  | .bitData i => txGoto (.bitSetup i) (putBit byte i s)
  | .bitSetup i => txGoto (.bitRelClk i) s
  | .bitRelClk i => txGoto (.bitHold i) (s.release .CLOCK)
  | .bitHold i => txGoto (.bitPullClk i) s
  | .bitPullClk i => txGoto (.bitRelData i) (s.pull .CLOCK)
  | .bitRelData i =>
    match nextBit i with
    | some j => txGoto (.bitData j) (s.release .DATA)
    | none => txGoto .frameAck (s.release .DATA)
  | .frameAck => waitWithin .DATA .PULLED (txGoto .betweenBytes) txFailLine s
  | .betweenBytes => afterTx true { s.writeEoi isLast with shake := .idle }

/-- The interval a level-L step stands for: a delay's, or a timed wait's limit (R153, R156). -/
def Shake.interval : Shake → Option Interval
  | .rx .waitEoi _ _ => some .T_EOI
  | .rx .eoiHold _ _ => some .T_EI
  | .rx .eoiEnd _ _ | .rx (.bitRise _) _ _ | .rx (.bitFall _) _ _ => some .T_LIMIT
  | .tx .eoiPulled | .tx .eoiReleased => some .T_LIMIT
  | .tx .neDelay => some .T_NE
  | .tx (.bitSetup _) => some .T_BIT_SETUP
  | .tx (.bitHold _) => some .T_BIT_HOLD
  | .tx .frameAck => some .T_FRAME
  | .tx .betweenBytes => some .T_BB
  | _ => none

/-! ### Byte transactions at either level -/

/-- The current step of `receiveByte`; its argument has no effect (R132, R153). -/
def rxStep (s : State) : Out :=
  match s.params.byteLevel with
  | .T => rxRendezvous s
  | .L =>
    match s.shake with
    | .rx p eoi acc => rxLineStep p eoi acc s
    | .idle | .tx _ => rxLineStep .waitReady false 0 s

/-- The current step of `sendByte` (R136, R156). -/
def txStep (byte : Byte) (isLast : Bool) (s : State) : Out :=
  match s.params.byteLevel with
  | .T => txRendezvous isLast s
  | .L =>
    match s.shake with
    | .tx p => txLineStep byte isLast p s
    | .idle | .rx _ _ _ => txLineStep byte isLast .relClk s

/-- The sticky-error check at the start of a byte transaction (R131). Once a level-L handshake is under way it has been made. -/
def stickyCheck (run : State → Out) (s : State) : Out :=
  if s.shake = .idle ∧ s.error = true then raise .F_STICKY_ERROR s else run s

/-! ### `service` -/

/-- SV_INIT (R170, R171); SV_RESET_CHECK follows only where `SERVICE_CHECKS_RESET` is true (R173). Log 15. -/
def serviceInit (s : State) : Out :=
  goto (if s.params.serviceChecksReset then .SV_RESET_CHECK else .SV_PRIMARY)
    { s.clearFlags with data := { s.data with valid := false }, phase := .NONE, prim := none }

/-- SV_RESET_CHECK (R170, R173): RESET is read only where `SERVICE_CHECKS_RESET` is true. -/
def serviceResetCheck (s : State) : Out :=
  if s.params.serviceChecksReset = true ∧ s.level .RESET = .PULLED then exitService .RESET s else goto .SV_PRIMARY s

/-- The gate's last test and the latch of `prim` (R177). -/
def gateDevice (p : Prim) (s : State) : Out :=
  readField s.data.device fun d =>
    if s.isEnabled d.toNat then goto .SV_SECONDARY { s with prim := some p } else exitService .IDLE s

/-- SV_GATE (R177). -/
def serviceGate (s : State) : Out :=
  readField s.data.command fun
    | .LISTEN => gateDevice .LISTEN s
    | .TALK => gateDevice .TALK s
    | .GLOBAL | .UNLISTEN | .UNTALK | .SECOND | .CLOSE | .OPEN | .NONE => exitService .IDLE s

/-- SV_DISPATCH: by the latched primary, not by `D.command` (R180). -/
def serviceDispatch (s : State) : Out :=
  readField s.prim fun
    | .TALK => goto .SV_TA s
    | .LISTEN => goto .SV_LISTEN s

/-- COMMAND where `D.content` is not empty, else IDLE (R208, R209). -/
def exitByContent (s : State) : Out :=
  readField s.data.content fun str => if str.length > 0 then exitService .COMMAND s else exitService .IDLE s

/-- SV_LISTEN: the arms of the listen sub-state-machine (R200, R201, R202, R209, R210); CMD_CHANNEL is 15 (R10). -/
def serviceListen (s : State) : Out :=
  readField s.data.command fun
    | .SECOND => readField s.data.channel fun ch => if ch = 15#4 then goto .SV_ACC_ATN s else exitService .LISTEN s
    | .OPEN => goto .SV_ACC_ATN s
    | .CLOSE => exitService .COMMAND s
    | .LISTEN | .TALK | .GLOBAL | .UNLISTEN | .UNTALK | .NONE => exitByContent s

/-- SV_ACC_ATN (R203). -/
def accumulateAtn (s : State) : Out :=
  if s.level .ATN = .PULLED then exitService .IDLE s else goto .SV_ACC_RX s

/-- One trailing pad byte 0xA0 is removed (R208). -/
def trimPad (str : List Byte) : List Byte := if str.getLast? = some 0xA0#8 then str.dropLast else str

/-- SV_ACC_END (R208). -/
def accumulateEnd (s : State) : Out :=
  readField s.data.content fun str =>
    exitByContent { s with data := { s.data with content := some (trimPad str) } }

/-- The steps of `service` that are its own (R170, R198, R200). -/
def serviceStep (s : State) : Out :=
  match s.ctl with
  | .SV_ENTRY_CLK => goto .SV_ENTRY_DATA (s.release .CLOCK)
  | .SV_INIT => serviceInit s
  | .SV_RESET_CHECK => serviceResetCheck s
  | .SV_GATE => serviceGate s
  | .SV_DISPATCH => serviceDispatch s
  | .SV_LISTEN => serviceListen s
  | .SV_ACC_ATN => accumulateAtn s
  | .SV_ACC_END => accumulateEnd s
  | .SV_EXIT_RELEASE S => .next (s.idleExit S)
  | _ => .refused .outOfPlace

/-! ### Turnaround and undo-turnaround -/

/-- The steps of turnaround that are its own; it returns to `service`, which exits (R170, R220, R221). Its call SV_TA is no step
of its own: the step taken at SV_TA is that of TA_WAIT, DESIGN CHOICE, log 15. -/
def turnaroundStep (s : State) : Out :=
  match s.ctl with
  | .SV_TA | .TA_WAIT =>
    waitUntil .CLOCK .RELEASED (goto .TA_REL_DATA) (exitService .ERROR) { s with ctl := .TA_WAIT }
  | .TA_D1 => goto .TA_PULL_CLK s
  | .TA_D2 => exitService .TALK s
  | _ => .refused .outOfPlace

/-- `sendEOI` returns after undo-turnaround (R226, R234). -/
def undoReturns (ok : Bool) (s : State) : Out := .next (State.ret (.bool ok) { s with phase := .TALK_DONE })

/-- The steps of undo-turnaround that are its own, with its call, which is its first step; it returns to `sendEOI`
(R225, R226, R234). -/
def undoTurnaroundStep (s : State) : Out :=
  match s.ctl with
  | .UT_PULL_DATA => goto .UT_D1 (s.pull .DATA)
  | .UT_D1 => goto .UT_REL_CLK s
  | .UT_D2 => goto .UT_WAIT s
  | .UT_WAIT => waitUntil .CLOCK .RELEASED (undoReturns true) (undoReturns false) s
  | _ => .refused .outOfPlace

/-! ### `releaseLines` and `sendFNF` -/

/-- `releaseLines` returns: the bus-idle transition (R254, R255). -/
def releaseReturns (s : State) : Out := .next s.busIdle.finish

/-- The steps of `releaseLines` that are its own (R254, R256). -/
def releaseLinesStep (s : State) : Out :=
  match s.ctl with
  | .RL_CLK k => goto (.RL_DATA k) (s.release .CLOCK)
  | .RL_WAIT true => waitUntil .ATN .RELEASED releaseReturns releaseReturns s
  | .RL_WAIT false => releaseReturns s
  | _ => .refused .outOfPlace

/-- The steps of `sendFNF` that are its own (R237). -/
def sendFnfStep (s : State) : Out :=
  match s.ctl with
  | .FNF_REL_DATA => goto .FNF_REL_CLK (s.release .DATA)
  | .FNF_DELAY => .next (State.ret (.bool true) { s with phase := .TALK_DONE })
  | _ => .refused .outOfPlace

end Sys2Proof.Machine
end

