-- ==== Sys2Proof/Machine/AtnCodes.lean ====
section
/-! DEFINITION. The meanings of the ATN command bytes at the places where `service` reads them (R93, R95, R96, R175, R179, R200). -/

namespace Sys2Proof.Machine

/-- UNLISTEN, 0x3F (R92, R176, R205). -/
def execAtnUnlisten (s : State) : Out := atnCode .UNLISTEN 0x3F s

/-- UNTALK, 0x5F (R92, R176). -/
def execAtnUntalk (s : State) : Out := atnCode .UNTALK 0x5F s

/-- GLOBAL, 0x00–0x0F (R93). -/
def execAtnGlobal (device : BitVec 4) (s : State) : Out := atnCode .GLOBAL (0x0#4 ++ device) s

/-- LISTEN, 0x20–0x2F (R93). -/
def execAtnListen (device : BitVec 4) (s : State) : Out := atnCode .LISTEN (0x2#4 ++ device) s

/-- TALK, 0x40–0x4F (R93). -/
def execAtnTalk (device : BitVec 4) (s : State) : Out := atnCode .TALK (0x4#4 ++ device) s

/-- SECOND, 0x60–0x6F (R93). -/
def execAtnSecond (channel : BitVec 4) (s : State) : Out := atnCode .SECOND (0x6#4 ++ channel) s

/-- CLOSE, 0xE0–0xEF (R93). -/
def execAtnClose (channel : BitVec 4) (s : State) : Out := atnCode .CLOSE (0xE#4 ++ channel) s

/-- OPEN, 0xF0–0xFF (R93). -/
def execAtnOpen (channel : BitVec 4) (s : State) : Out := atnCode .OPEN (0xF#4 ++ channel) s

/-- NONE, 0x10–0x1F (R95). -/
def execAtnNone1 (low : BitVec 4) (s : State) : Out := atnCode .NONE (0x1#4 ++ low) s

/-- NONE, 0x30–0x3E (R95). -/
def execAtnNone3 (low : BitVec 4) (s : State) : Out := atnCode .NONE (0x3#4 ++ low) s

/-- NONE, 0x50–0x5E (R95). -/
def execAtnNone5 (low : BitVec 4) (s : State) : Out := atnCode .NONE (0x5#4 ++ low) s

/-- NONE, 0x70–0x7F (R95). -/
def execAtnNone7 (low : BitVec 4) (s : State) : Out := atnCode .NONE (0x7#4 ++ low) s

/-- NONE, 0x80–0xBF (R95). -/
def execAtnNone8 (low : BitVec 6) (s : State) : Out := atnCode .NONE (0b10#2 ++ low) s

/-- NONE, 0xC0–0xDF (R95). -/
def execAtnNoneC (low : BitVec 5) (s : State) : Out := atnCode .NONE (0b110#3 ++ low) s

end Sys2Proof.Machine
end

