-- ==== Sys2Proof/Machine/BytePrimitives.lean ====
section
/-! DEFINITION. The meanings of the byte primitives RXB (`receiveByte`) and TXB (`sendByte`) (R130 to R138). -/

namespace Sys2Proof.Machine

/-- RXB (R131, R132, R133); the device operand has no effect. -/
def execRxb (device : Byte) (s : State) : Out :=
  operate (.rxb device) internalOnly (.OP_RXB device) (stickyCheck rxStep) s

/-- TXB (R131, R136, R137). -/
def execTxb (byte : Byte) (isLast : Bool) (s : State) : Out :=
  operate (.txb byte isLast) internalOnly (.OP_TXB byte isLast) (stickyCheck (txStep byte isLast)) s

end Sys2Proof.Machine
end

