-- ==== Sys2Proof/Machine/DataPhase.lean ====
section
/-! DEFINITION. The meanings of the caller's data-phase operations SEND, SENDS, SENDEOI, SENDFNF and RECV (R230 to R242). -/

namespace Sys2Proof.Machine

/-- SEND (R230). -/
def execSend (byte : Byte) (s : State) : Out :=
  operate (.send byte) (s.bytePhase .TALK) (.OP_SEND byte) (txStep byte false) s

/-- `send(string)` at OP_SENDS(i): the byte at index `i`, or the return of true after the last (R232, R233). -/
def sendsStep (s : State) : Out :=
  match s.ctl with
  | .OP_SENDS i =>
    match s.callerString[i]? with
    | some b => txStep b false s
    | none => .next (s.ret (.bool true))
  | _ => .refused .outOfPlace

/-- The sticky-error check is the first byte's: the empty string has none (R232, R233). -/
def State.sendsAdmission (s : State) : Admission := ⟨s.phase = .TALK, true, s.error && !s.callerString.isEmpty⟩

/-- SENDS (R232). -/
def execSends (s : State) : Out := operate .sends s.sendsAdmission (.OP_SENDS 0) sendsStep s

/-- SENDEOI (R234). -/
def execSendeoi (byte : Byte) (s : State) : Out :=
  operate (.sendeoi byte) (s.bytePhase .TALK) (.OP_SENDEOI byte) (txStep byte true) s

/-- SENDFNF (R237): no sticky-error check. -/
def execSendfnf (s : State) : Out := operate .sendfnf (s.phaseOnly .TALK) .FNF_REL_DATA sendFnfStep s

/-- The device passed to `receiveByte`: the operand if given, else 0 (R240). -/
def recvDevice (device : Byte) (hasDevice : Bool) : Byte := if hasDevice then device else 0

/-- RECV (R240). -/
def execRecv (device : Byte) (hasDevice : Bool) (s : State) : Out :=
  operate (.recv device hasDevice) (s.bytePhase .LISTEN) (.OP_RECV (recvDevice device hasDevice)) rxStep s

end Sys2Proof.Machine
end

