-- ==== Sys2Proof/Machine/Devices.lean ====
section
/-! DEFINITION. The meanings of the Enabled-Device Set operations ISEN, EN and DIS and of RELL (R250 to R257). -/

namespace Sys2Proof.Machine

/-- ISEN (R250, R253). -/
def execIsen (d : Byte) (s : State) : Out :=
  operate (.isen d) (deviceOp d) (.OP_ISEN d) (fun t => .next (t.ret (.bool (t.isEnabled d.toNat)))) s

/-- EN (R251, R253). -/
def execEn (d : Byte) (s : State) : Out :=
  operate (.en d) (deviceOp d) (.OP_EN d)
    (fun t => .next (State.finish { t with enabled := t.enabled ||| deviceBit d.toNat })) s

/-- DIS (R252, R253). -/
def execDis (d : Byte) (s : State) : Out :=
  operate (.dis d) (deviceOp d) (.OP_DIS d)
    (fun t => .next (State.finish { t with enabled := t.enabled &&& ~~~ deviceBit d.toNat })) s

/-- RELL (R254). -/
def execRell (wait : Bool) (s : State) : Out :=
  operate (.rell wait) everyPhase (.RL_CLK (.lines wait)) releaseLinesStep s

end Sys2Proof.Machine
end

