-- ==== Sys2Proof/Machine/LinePrimitives.lean ====
section
/-! DEFINITION. The meanings of the line primitives PULL, REL, MODE and STAT (R120 to R128). -/

namespace Sys2Proof.Machine

/-- A line primitive on a line that must be drivable; RESET raises F_BAD_ARG (R127). -/
def onDrivable (l : Line) (k : DLine → State → Out) (s : State) : Out :=
  match lineDrivable l with
  | some d => k d s
  | none => raise .F_BAD_ARG s

/-- PULL (R120, R124, R127). -/
def execPull (l : Line) (s : State) : Out :=
  operate (.pull l) internalOnly (.OP_PULL l) (onDrivable l fun d t => afterLine (t.pull d)) s

/-- REL (R122, R124, R127). -/
def execRel (l : Line) (s : State) : Out :=
  operate (.rel l) internalOnly (.OP_REL l) (onDrivable l fun d t => afterLine (t.release d)) s

/-- `set_pin_mode(l, OUTPUT)` while `drive[l] = RELEASED` would drive the idle level (R125, R126, 93 U2). -/
def State.wouldDriveIdle (s : State) (l : Line) (m : PinMode) : Bool :=
  match lineDrivable l with
  | some d => m = .OUTPUT && (s.lines.get d).drive = .RELEASED
  | none => false

/-- What R126 and R127 check of a caller's `set_pin_mode`. -/
def State.modeAdmission (s : State) (l : Line) (m : PinMode) : Admission where
  contract := s.phase = .NONE && !s.wouldDriveIdle l m
  args := (lineDrivable l).isSome
  sticky := false

/-- MODE (R125, R126, R127). -/
def execMode (l : Line) (m : PinMode) (s : State) : Out :=
  operate (.mode l m) (s.modeAdmission l m) (.OP_MODE l m)
    (onDrivable l fun d t => .next (t.setPinMode d m).finish) s

/-- STAT (R128). -/
def execStat (l : Line) (s : State) : Out :=
  operate (.stat l) everyPhase (.OP_STATUS l) (fun t => .next (t.ret (.level (t.level l)))) s

end Sys2Proof.Machine
end

