-- ==== Sys2Proof/Machine/Service.lean ====
section
/-! DEFINITION. The meanings of SERVICE (R170), TURNAROUND (R220) and UNDO_TURNAROUND (R225). -/

namespace Sys2Proof.Machine

/-- SERVICE (R170): issued in any phase (R184); at its own control states, the step named there. -/
def execService (s : State) : Out := operate .service everyPhase .SV_ENTRY_CLK serviceStep s

/-- TURNAROUND (R220), internal. -/
def execTurnaround (s : State) : Out := operate .turnaround internalOnly .SV_TA turnaroundStep s

/-- UNDO_TURNAROUND (R225), internal. -/
def execUndoTurnaround (s : State) : Out := operate .undoTurnaround internalOnly .UT_PULL_DATA undoTurnaroundStep s

end Sys2Proof.Machine
end

