-- ==== Sys2Proof/Machine/Dispatch.lean ====
section
/-! DEFINITION. The dispatch of an instruction to its meaning. -/

namespace Sys2Proof.Machine

def exec (i : Instr) (s : State) : Host.Outcome State Fault Refusal :=
  match i with
  | .pull l => Sys2Proof.Machine.execPull l s
  | .rel l => Sys2Proof.Machine.execRel l s
  | .mode l m => Sys2Proof.Machine.execMode l m s
  | .stat l => Sys2Proof.Machine.execStat l s
  | .rxb device => Sys2Proof.Machine.execRxb device s
  | .txb byte isLast => Sys2Proof.Machine.execTxb byte isLast s
  | .service => Sys2Proof.Machine.execService s
  | .send byte => Sys2Proof.Machine.execSend byte s
  | .sends => Sys2Proof.Machine.execSends s
  | .sendeoi byte => Sys2Proof.Machine.execSendeoi byte s
  | .sendfnf => Sys2Proof.Machine.execSendfnf s
  | .recv device hasDevice => Sys2Proof.Machine.execRecv device hasDevice s
  | .isen device => Sys2Proof.Machine.execIsen device s
  | .en device => Sys2Proof.Machine.execEn device s
  | .dis device => Sys2Proof.Machine.execDis device s
  | .rell wait => Sys2Proof.Machine.execRell wait s
  | .turnaround => Sys2Proof.Machine.execTurnaround s
  | .undoTurnaround => Sys2Proof.Machine.execUndoTurnaround s
  | .atnUnlisten => Sys2Proof.Machine.execAtnUnlisten s
  | .atnUntalk => Sys2Proof.Machine.execAtnUntalk s
  | .atnGlobal device => Sys2Proof.Machine.execAtnGlobal device s
  | .atnListen device => Sys2Proof.Machine.execAtnListen device s
  | .atnTalk device => Sys2Proof.Machine.execAtnTalk device s
  | .atnSecond channel => Sys2Proof.Machine.execAtnSecond channel s
  | .atnClose channel => Sys2Proof.Machine.execAtnClose channel s
  | .atnOpen channel => Sys2Proof.Machine.execAtnOpen channel s
  | .atnNone1 low => Sys2Proof.Machine.execAtnNone1 low s
  | .atnNone3 low => Sys2Proof.Machine.execAtnNone3 low s
  | .atnNone5 low => Sys2Proof.Machine.execAtnNone5 low s
  | .atnNone7 low => Sys2Proof.Machine.execAtnNone7 low s
  | .atnNone8 low => Sys2Proof.Machine.execAtnNone8 low s
  | .atnNoneC low => Sys2Proof.Machine.execAtnNoneC low s

end Sys2Proof.Machine
end

