-- ==== Sys2Proof/Machine/Fetch.lean ====
section
/-! DEFINITION. Whose turn it is (R7, R67), what the unit runs next (R45, R110), the caller's branches (R110), and where an
instruction is placed so that the next step runs it. -/

namespace Sys2Proof.Machine

/-! ### Whose turn it is -/

/-- The move of one step: another agent has moved, or the unit moves. -/
inductive Mover where
  | other (s : State)
  | unit (s : State)

/-- A second caller's word while an operation is in progress: INVALID comes before F_REENTRY (R281, R290). Log 17. -/
def intruderFault (w : OpWord) : FaultReason :=
  match decodeOp w with
  | .ok _ => .F_REENTRY
  | .error _ => .F_BAD_OP

/-- The next turn of the script. A host answer, a timeout or a second caller that is not enabled yet waits at the head of the
script while the unit moves; with the script empty the unit moves (R67, R70). Log 1. -/
def mover (s : State) : Mover :=
  match s.script with
  | .hSet l v :: rest => .other { s.hostSet l v with script := rest }
  | .unit :: rest => .unit { s with script := rest }
  | .intrude w :: rest =>
    if s.inProgress then .other { s.addFault (intruderFault w) with script := rest } else .unit s
  | .hTalk _ :: _ | .hListen _ :: _ | .timeout :: _ | [] => .unit s

/-! ### The caller's branches -/

/-- Whether a branch line is taken; none where it reads `r = ⊥` (R110, R13). An operation line is no branch. -/
def branchTaken (line : CallerLine) (s : State) : Option Bool :=
  match line with
  | .op _ _ => some false
  | .br _ => some true
  | .beq v _ => s.r.map fun x => resultCode x == v
  | .blt0 _ => s.r.map fun x => (resultCode x).slt 0
  | .beoi _ => some s.eoi
  | .berr _ => some s.error

/-- The line a branch names. -/
def branchTarget : CallerLine → Nat
  | .op _ _ => 0
  | .br t | .beq _ t | .blt0 t | .beoi t | .berr t => t

/-- A caller's branch: it changes the caller's position and nothing of the block's (R110). -/
def branch (line : CallerLine) (s : State) : Out :=
  readField (branchTaken line s) fun taken => .next { s with pc := if taken then branchTarget line else s.pc + 1 }

/-! ### What the unit runs -/

/-- What the unit does in its turn: run an instruction, or a move that is no instruction. -/
inductive Fetched where
  | run (i : Instr)
  | moved (o : Out)

/-- At READY the caller's current line: a branch, or an operation word, which faults where it is INVALID (R108, R289); past the
last line the program has ended and nothing changes (R17, R110, log 9). Elsewhere the operation of the current step (R45);
an operand that is ⊥ faults (R13, log 10). -/
def fetch (s : State) : Fetched :=
  match s.ctl with
  | .READY =>
    match s.prog[s.pc]? with
    | none => .moved (.next s)
    | some (.op w _) =>
      match decodeOp w with
      | .ok i => .run i
      | .error _ => .moved (raise .F_BAD_OP s)
    | some (.br t) => .moved (branch (.br t) s)
    | some (.beq v t) => .moved (branch (.beq v t) s)
    | some (.blt0 t) => .moved (branch (.blt0 t) s)
    | some (.beoi t) => .moved (branch (.beoi t) s)
    | some (.berr t) => .moved (branch (.berr t) s)
  | _ =>
    match s.unitOp with
    | some i => .run i
    | none => .moved bottomRead

/-! ### Placing an instruction -/

/-- The turns after a placed instruction: the unit moves first. -/
def unitFirst : List Turn → List Turn
  | [] => []
  | t :: rest => .unit :: t :: rest

/-- The caller program with `w` as its line `p`. -/
def placeLine (prog : List CallerLine) (p : Nat) (w : OpWord) : List CallerLine :=
  prog.take p ++ [.op w []] ++ prog.drop (p + 1)

/-- The caller is about to issue the operation word `w`, with an empty string operand. Log 25. -/
def State.placeOpWord (w : OpWord) (s : State) : State :=
  { s with
    prog := placeLine s.prog (min s.pc s.prog.length) w
    pc := min s.pc s.prog.length
    ctl := .READY
    busy := false
    shake := .idle
    faults := .empty
    script := unitFirst s.script }

/-- `service` has received the primary byte `b` and is about to decode it. Log 25. -/
def State.placeAtnByte (b : Byte) (s : State) : State :=
  { s with
    ctl := .SV_DECODE1 b
    busy := true
    shake := .idle
    faults := .empty
    script := unitFirst s.script }

/-- A table word of `nbits` bits, placed where the next step fetches it. -/
def State.placeTableWord (nbits w : Nat) (s : State) : State :=
  if nbits ≤ 8 then s.placeAtnByte (BitVec.ofNat 8 w) else s.placeOpWord (BitVec.ofNat 32 w)

end Sys2Proof.Machine
end

