-- ==== Sys2Proof/Machine/Step.lean ====
section
/-! DEFINITION. One step of the machine: one host step or one unit step (R7, R8). -/

namespace Sys2Proof.Machine

/-- The unit's turn. -/
def unitTurn (s : State) : Host.Outcome State Fault Refusal :=
  match fetch s with
  | .run i => exec i s
  | .moved o => o

/-- One step. After a fault the unit takes no further step (R285). -/
def step (s : State) : Host.Outcome State Fault Refusal :=
  if s.faults.nonempty then .fault .quiescent
  else
    match mover s with
    | .other t => .next t
    | .unit t => unitTurn t

/-- `s` with an instruction of the opcode table placed where the next step fetches it. Log 25. -/
def State.withFetchWord (s : State) (nbits w : Nat) : State := s.placeTableWord nbits w

end Sys2Proof.Machine
end

