-- ==== Sys2Proof/Safety.lean ====
section
/-! DEFINITION. What a run and its successful end are (R17), the invariant of the machine (R27, R28, R35, R38, R39, R51, R53 and what they
rest on), and the host premises W0 to W4 (R69). -/

namespace Sys2Proof.Machine

/-! ### Runs -/

/-- `n` steps of the machine. -/
def run (n : Nat) (s : State) : Host.Outcome State Fault Refusal := Host.Core.run Sys2Proof.core n s

/-- Control has passed the caller program's last line, after its last operation has returned (R17, R110). -/
def State.ended (s : State) : Prop := s.ctl = .READY ∧ s.prog.length ≤ s.pc

/-- A run that records a fault is never a successful one (R17, R52). -/
def State.endedWell (s : State) : Prop := s.ended ∧ s.faults = .empty

/-- It is the unit's turn and no answer waits: the script is empty and no fault is recorded. -/
def State.unitAlone (s : State) : Prop := s.script = [] ∧ s.faults = .empty

/-- The caller may issue its next operation: READY, not busy, no level-L handshake under way (R45, R53). -/
def State.ready (s : State) : Prop := s.ctl = .READY ∧ s.busy = false ∧ s.shake = .idle

/-! ### The invariant -/

/-- A register of CLOCK or DATA in a run: released or pulled by the unit (R120, R122). -/
def LineReg.legal (x : LineReg) : Prop := x = .idle ∨ x = .pulled

/-- The control states of operations that take a single step, or that only the block could issue alone: no run of a caller program
rests there. -/
def Ctl.transient : Ctl → Bool
  | .OP_PULL _ | .OP_REL _ | .OP_MODE _ _ | .OP_STATUS _ | .OP_RXB _ | .OP_TXB _ _ | .OP_ISEN _ | .OP_EN _ | .OP_DIS _ => true
  | _ => false

/-- What the phase is inside an operation (R51). -/
def phaseInside (c : Ctl) (p : Phase) : Prop :=
  match c with
  | .OP_SEND _ | .OP_SENDS _ | .OP_SENDEOI _ | .UT_PULL_DATA | .UT_D1 | .UT_REL_CLK | .UT_D2 | .UT_WAIT
  | .FNF_REL_DATA | .FNF_REL_CLK | .FNF_DELAY => p = .TALK
  | .OP_RECV _ => p = .LISTEN
  | .SV_RESET_CHECK | .SV_PRIMARY | .SV_DECODE1 _ | .SV_GATE | .SV_SECONDARY | .SV_DISPATCH | .SV_TA | .SV_LISTEN
  | .SV_ACC_ATN | .SV_ACC_RX | .SV_ACC_END | .SV_EXIT_RELEASE _ | .TA_WAIT | .TA_REL_DATA | .TA_D1 | .TA_PULL_CLK
  | .TA_D2 => p = .NONE
  | .RL_CLK (.exit _) | .RL_DATA (.exit _) | .RL_ATN (.exit _) | .RL_SRQ (.exit _) => p = .NONE
  | _ => True

/-- Which lines the release steps have already released; at READY in phase NONE every line is idle (R27, R255). -/
def releasedSoFar (c : Ctl) (p : Phase) (u : UnitLines) : Prop :=
  match c with
  | .READY => p = .NONE → u = .idle
  | .RL_DATA _ => u.clock = .idle
  | .RL_ATN _ | .RL_SRQ _ | .RL_WAIT _ | .SV_EXIT_RELEASE _ => u.clock = .idle ∧ u.data = .idle
  | _ => True

/-- An exit that releases the lines has one of the three results that do (R198). -/
def exitIsIdle (c : Ctl) : Prop :=
  match c with
  | .RL_CLK (.exit S) | .RL_DATA (.exit S) | .RL_ATN (.exit S) | .RL_SRQ (.exit S) | .SV_EXIT_RELEASE S =>
    S = .IDLE ∨ S = .ERROR ∨ S = .RESET
  | _ => True

/-- All fields of the record have been written (R39). -/
def DataRec.written (d : DataRec) : Prop :=
  d.device.isSome ∧ d.command.isSome ∧ d.channel.isSome ∧ d.content.isSome

/-- What `service` has written when it reads the record or `prim` (R185). -/
def writtenBefore (c : Ctl) (d : DataRec) (p : Option Prim) : Prop :=
  match c with
  | .SV_GATE => d.command.isSome ∧ (d.command = some .LISTEN ∨ d.command = some .TALK → d.device.isSome)
  | .SV_SECONDARY => d.device.isSome ∧ p.isSome
  | .SV_DISPATCH => d.written ∧ p.isSome
  | .SV_TA | .TA_WAIT | .TA_REL_DATA | .TA_D1 | .TA_PULL_CLK | .TA_D2 | .SV_LISTEN | .SV_ACC_ATN | .SV_ACC_RX
  | .SV_ACC_END => d.written
  | _ => True

/-- The steps at which a byte transaction may be under way (R291). -/
def Ctl.receives : Ctl → Bool
  | .SV_PRIMARY | .SV_SECONDARY | .SV_ACC_RX | .OP_RECV _ => true
  | _ => false

def Ctl.transmits : Ctl → Bool
  | .OP_SEND _ | .OP_SENDS _ | .OP_SENDEOI _ => true
  | _ => false

/-- A level-L handshake is under way only at level L and only at a byte transaction of its direction. -/
def shakeInPlace (s : State) : Prop :=
  match s.shake with
  | .idle => True
  | .rx _ _ _ => s.params.byteLevel = .L ∧ s.ctl.receives = true
  | .tx _ => s.params.byteLevel = .L ∧ s.ctl.transmits = true

/-- The invariant of the machine: it holds at reset and every step keeps it. -/
structure State.Inv (s : State) : Prop where
  /-- JIFFY_ACTIVE and the reserved flag bits read 0 (R28, R33) -/
  flagsReserved : s.flags &&& 0xFC#8 = 0#8
  /-- busy exactly while an operation is in progress (R53) -/
  busyIff : s.busy = true ↔ s.ctl ≠ .READY
  /-- the unit never pulls ATN (R254) -/
  atnIdle : s.lines.atn = .idle
  /-- the unit never pulls SRQ (R279) -/
  srqIdle : s.lines.srq = .idle
  /-- the idle level is never driven (R27, R125) -/
  clockLegal : s.lines.clock.legal
  dataLegal : s.lines.data.legal
  notTransient : s.ctl.transient = false
  /-- the contract monitor inside an operation (R51) -/
  phaseFits : phaseInside s.ctl s.phase
  /-- the idle invariant (R27) with the release steps that lead to it (R255) -/
  idleAtRest : releasedSoFar s.ctl s.phase s.lines
  exitFits : exitIsIdle s.ctl
  /-- a device is at most 15 (R35) -/
  deviceRange : ∀ d, s.data.device = some d → d.toNat ≤ 15
  /-- the command string is at most CMD_MAX long (R38, R206) -/
  contentBound : ∀ c, s.data.content = some c → c.length ≤ s.params.cmdMax
  /-- the record is valid exactly in the phases after LISTEN, TALK and COMMAND (R39, R51) -/
  validIff : s.data.valid = true ↔ s.phase ≠ .NONE
  /-- a valid record has been written whole (R39) -/
  validWritten : s.data.valid = true → s.data.written
  recordWritten : writtenBefore s.ctl s.data s.prim
  shakeFits : shakeInPlace s
  /-- inside `send(string)` the byte in turn exists (R232) -/
  sendsInside : ∀ n, s.ctl = .OP_SENDS n → n < s.callerString.length

/-- The posture a level-L send has reached where its success depends on it: after the eighth bit cell CLOCK is pulled and DATA
released (R156). -/
def lineSendPosture (s : State) : Prop :=
  match s.shake with
  | .tx .frameAck | .tx .betweenBytes => s.lines.clock = .pulled ∧ s.lines.data = .idle
  | .tx (.bitRelData _) => s.lines.clock = .pulled
  | _ => True

/-! ### The host premises (R69), each of the whole run from a state. They are assumptions a claim names, not host duties. Log 20. -/

/-- Some run from `s` arrives at `t`. -/
def State.reaches (s t : State) : Prop := ∃ n, run n s = .next t

/-- The unit is at `xfer_rx`, waiting or about to be answered (R133). Level L has no rendezvous. -/
def State.atReceive (s : State) : Prop := s.params.byteLevel = .T ∧ s.error = false ∧ ∃ d, s.unitOp = some (.rxb d)

/-- The unit is at `xfer_tx` (R137). -/
def State.atSend (s : State) : Prop := s.params.byteLevel = .T ∧ s.error = false ∧ ∃ b last, s.unitOp = some (.txb b last)

/-- The script as the unit finds it in its next move, a `unit` turn used up; none where another agent moves next. -/
def State.unitScript (s : State) : Option (List Turn) :=
  match mover s with
  | .unit t => some t.script
  | .other _ => none

/-- W0: the host answers every rendezvous the run arrives at, with `ok` or `ack`, and no step of the run takes the answer `fail`;
the order is the script's (R69). DESIGN CHOICE: at level L, which has no rendezvous, it binds nothing. Log 20. -/
def State.premiseW0 (s : State) : Prop :=
  ∀ t, s.reaches t → t.faults = .empty →
    (∀ u rest, t.unitScript = some (.hTalk .fail :: rest) ∨ t.unitScript = some (.hListen .fail :: rest) →
      step t = .next u → u.script ≠ rest) ∧
    (t.atReceive → ∃ u b eoi rest, t.reaches u ∧ u.ctl = t.ctl ∧ u.unitScript = some (.hTalk (.ok b eoi) :: rest)) ∧
    (t.atSend → ∃ u rest, t.reaches u ∧ u.ctl = t.ctl ∧ u.unitScript = some (.hListen .ack :: rest))

/-- W1: at the first ATN sample after SV_LISTEN has started an accumulation the host has released ATN. The first sample is the
unit's move at SV_ACC_ATN before which the unit has been nowhere else since SV_LISTEN; a later sample, after a skipped or
an appended byte, is not bound (R69). -/
def State.premiseW1 (s : State) : Prop :=
  ∀ t m u v, s.reaches t → t.ctl = .SV_LISTEN → run m t = .next u → u.ctl = .SV_ACC_ATN → u.faults = .empty → mover u = .unit v →
    (∀ k x, k < m → run k t = .next x → x.ctl = .SV_LISTEN ∨ x.ctl = .SV_ACC_ATN) → u.host.atn = .RELEASED

/-- The byte the host will talk next. -/
def nextTalk (script : List Turn) : Option RxAnswer :=
  script.findSome? fun turn =>
    match turn with
    | .hTalk a => some a
    | .unit | .hSet _ _ | .hListen _ | .timeout | .intrude _ => none

/-- A command string is being accumulated, or the secondary byte that starts one has been taken (R202, R209). -/
def State.stringAhead (s : State) : Prop :=
  s.ctl = .SV_ACC_ATN ∨ s.ctl = .SV_ACC_RX ∨
  ((s.ctl = .SV_LISTEN ∨ (s.ctl = .SV_DISPATCH ∧ s.prim = some .LISTEN)) ∧
    (s.data.command = some .OPEN ∨ (s.data.command = some .SECOND ∧ s.data.channel = some 15)))

/-- W2: when the host asserts ATN with a command string ahead or begun and the byte it talks next is the UNLISTEN that ends the string,
the unit is at SV_ACC_RX (R69). DESIGN CHOICE: the UNLISTEN is known by its `hTalk` turn, so at level L, where a byte is sent by line
changes, it binds nothing. Log 20. -/
def State.premiseW2 (s : State) : Prop :=
  ∀ t rest eoi, s.reaches t → t.stringAhead → t.host.atn = .RELEASED →
    t.script = .hSet .ATN .PULLED :: rest → nextTalk rest = some (.ok 0x3F#8 eoi) → t.ctl = .SV_ACC_RX

/-- The steps of turnaround and undo-turnaround up to the end of their wait (R220, R225). -/
def Ctl.awaitsClock : Ctl → Bool
  | .SV_TA | .TA_WAIT | .UT_PULL_DATA | .UT_D1 | .UT_REL_CLK | .UT_D2 | .UT_WAIT => true
  | _ => false

/-- W3: from turnaround or undo-turnaround the run arrives at a state where the host has released CLOCK (R69). -/
def State.premiseW3 (s : State) : Prop :=
  ∀ t, s.reaches t → t.faults = .empty → t.ctl.awaitsClock = true → ∃ u, t.reaches u ∧ u.host.clock = .RELEASED

/-- W4: from the wait of `releaseLines(true)` the run arrives at a state where the host has released ATN (R69). -/
def State.premiseW4 (s : State) : Prop :=
  ∀ t, s.reaches t → t.faults = .empty → t.ctl = .RL_WAIT true → ∃ u, t.reaches u ∧ u.host.atn = .RELEASED

end Sys2Proof.Machine
end

