-- ==== Sys2Proof/Certificates/Slice0/Obligations.lean ====
section
/-! DEFINITION. The statements about the model, from the numbered rules of the spec. In a conclusion `{ s with … }` names every field that
changes: every other field, the frame, is unchanged. -/

open Sys2Proof Sys2Proof.Machine

/-! ### Reset, fetching, decoding -/

/-- R300: the state after construction, for all parameters and all levels of the host. -/
def Obligations.ConstructionLeavesResetValues : Prop :=
  ∀ (p : Params) (h : HostLines),
    (State.construct p h).lines = ⟨⟨.INPUT, .RELEASED⟩, ⟨.INPUT, .RELEASED⟩, ⟨.INPUT, .RELEASED⟩, ⟨.INPUT, .RELEASED⟩⟩ ∧
    (∀ l : DLine, (State.construct p h).contrib l = .RELEASED) ∧
    (State.construct p h).flags = 0#8 ∧
    (State.construct p h).enabled = p.initialEnabled ∧
    (State.construct p h).ctl = .READY ∧
    (State.construct p h).prim = none ∧
    (State.construct p h).r = none ∧
    (State.construct p h).phase = .NONE ∧
    (∀ x, (State.construct p h).faults.has x = false) ∧
    (State.construct p h).busy = false ∧
    (State.construct p h).data = ⟨none, none, none, none, false⟩ ∧
    (State.construct p h).host = h ∧
    State.reset.enabled = 0#31

/-- Derived (log 1, log 2): at READY, in the unit's turn, a step runs the instruction the caller's line decodes to; after a `unit` turn
that turn is used up. -/
def Obligations.StepRunsTheCallersWord : Prop :=
  ∀ (s : State) (w : OpWord) (str : List Byte) (i : Instr),
    s.faults = .empty → s.ctl = .READY → s.prog[s.pc]? = some (.op w str) → decodeOp w = .ok i →
    (s.script = [] ∨ (∃ a rest, s.script = .hTalk a :: rest) ∨ (∃ a rest, s.script = .hListen a :: rest) ∨
      (∃ rest, s.script = .timeout :: rest) → step s = exec i s) ∧
    (∀ rest, s.script = .unit :: rest → step s = exec i { s with script := rest })

/-- Derived (R45, log 12): inside an operation, in the unit's turn, a step runs the instruction of the procedure's current step; that an
answer or a timeout waits at the script's head while the unit moves, and that a `unit` turn is used up, is log 1. -/
def Obligations.StepRunsTheProceduresStep : Prop :=
  ∀ (s : State) (i : Instr),
    s.faults = .empty → s.ctl ≠ .READY → s.unitOp = some i →
    (s.script = [] ∨ (∃ a rest, s.script = .hTalk a :: rest) ∨ (∃ a rest, s.script = .hListen a :: rest) ∨
      (∃ rest, s.script = .timeout :: rest) → step s = exec i s) ∧
    (∀ rest, s.script = .unit :: rest → step s = exec i { s with script := rest })

/-- R108: which words decode. -/
def Obligations.WordDecodesExactlyWhenAdmissible : Prop :=
  ∀ w : OpWord,
    (∃ i, decodeOp w = .ok i) ↔
      w.extractLsb' 0 8 = 0#8 ∧
      (((w.extractLsb' 24 8).toNat ∈ [0x01, 0x02, 0x04] ∧ (w.extractLsb' 16 8).toNat ≤ 4 ∧ w.extractLsb' 8 8 = 0#8) ∨
       ((w.extractLsb' 24 8).toNat = 0x03 ∧ (w.extractLsb' 16 8).toNat ≤ 4 ∧ (w.extractLsb' 8 8).toNat ≤ 1) ∨
       ((w.extractLsb' 24 8).toNat ∈ [0x05, 0x11, 0x13, 0x16, 0x17, 0x18] ∧ w.extractLsb' 8 8 = 0#8) ∨
       ((w.extractLsb' 24 8).toNat ∈ [0x06, 0x15] ∧ (w.extractLsb' 8 8).toNat ≤ 1) ∨
       ((w.extractLsb' 24 8).toNat ∈ [0x10, 0x12, 0x14, 0x20, 0x21] ∧ w.extractLsb' 16 8 = 0#8 ∧ w.extractLsb' 8 8 = 0#8) ∨
       ((w.extractLsb' 24 8).toNat = 0x19 ∧ w.extractLsb' 16 8 = 0#8 ∧ (w.extractLsb' 8 8).toNat ≤ 1))

/-- Derived (R108, R281, R289): a word that decodes to INVALID records F_BAD_OP and changes nothing else, at the caller's line and as
a second caller's word inside an operation (log 17), where it comes before F_REENTRY. -/
def Obligations.InvalidWordRecordsBadOp : Prop :=
  ∀ (s : State) (w : OpWord) (e : Reject), s.faults = .empty → decodeOp w = .error e →
    (∀ str, s.ctl = .READY → s.prog[s.pc]? = some (.op w str) →
      (s.script = [] ∨ (∃ a rest, s.script = .hTalk a :: rest) ∨ (∃ a rest, s.script = .hListen a :: rest) ∨
        (∃ rest, s.script = .timeout :: rest) → step s = .next { s with faults := { s.faults with badOp := true } }) ∧
      (∀ rest, s.script = .unit :: rest →
        step s = .next { s with faults := { s.faults with badOp := true }, script := rest })) ∧
    (∀ rest, s.busy = true → s.script = .intrude w :: rest →
      step s = .next { s with faults := { s.faults with badOp := true }, script := rest })

/-- Decoding the encoding of a well-formed instruction gives it back, every operand at every value. -/
def Obligations.DecodeOfEncodeIsIdentity : Prop :=
  ∀ i : Instr, i.wf = true → decode (encode i) = .ok i

/-- No two words, and no two bytes, decode to one instruction, and what decodes is well-formed. -/
def Obligations.EncodeOfDecodeIsIdentity : Prop :=
  (∀ (w : OpWord) (i : Instr), decodeOp w = .ok i → encode i = .opWord w ∧ i.wf = true) ∧
  (∀ b : Byte, encode (decodeAtn b) = .atnByte b ∧ (decodeAtn b).wf = true)

/-- R93: `decode(b)`, the exact codes first, then the command nibble, and the argument `b XOR mask`. -/
def Obligations.AtnDecodeFollowsTheTable : Prop :=
  ∀ b : Byte,
    atnCmd b =
      (if b = 0x3F#8 then .UNLISTEN
       else if b = 0x5F#8 then .UNTALK
       else if b.toNat / 16 = 0x0 then .GLOBAL
       else if b.toNat / 16 = 0x2 then .LISTEN
       else if b.toNat / 16 = 0x4 then .TALK
       else if b.toNat / 16 = 0x6 then .SECOND
       else if b.toNat / 16 = 0xE then .CLOSE
       else if b.toNat / 16 = 0xF then .OPEN
       else .NONE) ∧
    (atnCmd b = .GLOBAL → decodeAtn b = .atnGlobal (argNibble b) ∧ (argNibble b).setWidth 8 = b ^^^ 0x00#8) ∧
    (atnCmd b = .LISTEN → decodeAtn b = .atnListen (argNibble b) ∧ (argNibble b).setWidth 8 = b ^^^ 0x20#8) ∧
    (atnCmd b = .TALK → decodeAtn b = .atnTalk (argNibble b) ∧ (argNibble b).setWidth 8 = b ^^^ 0x40#8) ∧
    (atnCmd b = .SECOND → decodeAtn b = .atnSecond (argNibble b) ∧ (argNibble b).setWidth 8 = b ^^^ 0x60#8) ∧
    (atnCmd b = .CLOSE → decodeAtn b = .atnClose (argNibble b) ∧ (argNibble b).setWidth 8 = b ^^^ 0xE0#8) ∧
    (atnCmd b = .OPEN → decodeAtn b = .atnOpen (argNibble b) ∧ (argNibble b).setWidth 8 = b ^^^ 0xF0#8)

/-- Words and bytes written out from the spec's encodings (95_test_vectors.md V-O1, V-O2, V-E1). -/
def Obligations.SpecWordsDecode : Prop :=
  decodeTableWord 32 0x01020000 = some (.pull .DATA) ∧
  decodeTableWord 32 0x06410100 = some (.txb 0x41 true) ∧
  decodeTableWord 32 0x10000000 = some .service ∧
  decodeTableWord 32 0x15080100 = some (.recv 8 true) ∧
  decodeTableWord 32 0x17080000 = some (.en 8) ∧
  decodeTableWord 32 0x19000100 = some (.rell true) ∧
  decodeTableWord 32 0x21000000 = some .undoTurnaround ∧
  decodeTableWord 32 0x03050000 = none ∧
  decodeTableWord 32 0x10000001 = none ∧
  decodeTableWord 8 0x28 = some (.atnListen 8) ∧
  decodeTableWord 8 0x3F = some .atnUnlisten ∧
  decodeTableWord 8 0x3E = some (.atnNone3 0xE)

/-! ### Lines -/

/-- R24, R128: the bus level is the wired-OR; RESET has the host's contribution alone; `status` returns the level of any line, in
any phase. -/
def Obligations.StatusReturnsTheWiredOrLevel : Prop :=
  ∀ (s : State) (l : Line),
    (s.level l = .PULLED ↔
      (∃ d, lineDrivable l = some d ∧ (s.lines.get d).mode = .OUTPUT ∧ (s.lines.get d).drive = .PULLED) ∨
      s.host.get l = .PULLED) ∧
    s.level .RESET = s.host.reset ∧
    (s.ctl = .READY → s.busy = false → exec (.stat l) s = .next { s with r := some (.level (s.level l)), pc := s.pc + 1 })

/-- Derived (R120, R127, R170, R220): `pull(l)` as the block issues it: at every step whose operation is PULL (log 12), then at each of
them with the step that follows; alone it returns to READY with no caller line passed (log 13). -/
def Obligations.PullMakesTheLinePulled : Prop :=
  (∀ (s : State) (l : Line) (d : DLine), lineDrivable l = some d → s.unitOp = some (.pull l) →
    ∃ c b, exec (.pull l) s = .next { s with lines := s.lines.put d ⟨.OUTPUT, .PULLED⟩, ctl := c, busy := b }) ∧
  (∀ (s : State) (l : Line) (d : DLine), lineDrivable l = some d → s.ctl = .OP_PULL l →
    ∃ t, exec (.pull l) s = .next t ∧
      t = { s with lines := s.lines.put d ⟨.OUTPUT, .PULLED⟩, ctl := .READY, busy := false } ∧
      t.lines.get d = ⟨.OUTPUT, .PULLED⟩ ∧ (∀ k, k ≠ d → t.lines.get k = s.lines.get k) ∧ t.level l = .PULLED) ∧
  (∀ s : State, s.ctl = .OP_PULL .RESET → exec (.pull .RESET) s = .next { s with faults := { s.faults with badArg := true } }) ∧
  (∀ s : State, s.ctl = .SV_ENTRY_DATA →
    exec (.pull .DATA) s = .next { s with lines := { s.lines with data := ⟨.OUTPUT, .PULLED⟩ }, ctl := .SV_INIT }) ∧
  (∀ s : State, s.ctl = .TA_PULL_CLK →
    exec (.pull .CLOCK) s = .next { s with lines := { s.lines with clock := ⟨.OUTPUT, .PULLED⟩ }, ctl := .TA_D2 })

/-- Derived (R122, R127): `release(l)` as the block issues it: at every step whose operation is REL (log 12), then alone, for every line,
where it returns to READY with no caller line passed (log 13). -/
def Obligations.ReleaseLetsTheLineFloat : Prop :=
  (∀ (s : State) (l : Line) (d : DLine), lineDrivable l = some d → s.unitOp = some (.rel l) →
    ∃ c b, exec (.rel l) s = .next { s with lines := s.lines.put d ⟨.INPUT, .RELEASED⟩, ctl := c, busy := b }) ∧
  (∀ (s : State) (l : Line) (d : DLine), lineDrivable l = some d → s.ctl = .OP_REL l →
    ∃ t, exec (.rel l) s = .next t ∧
      t = { s with lines := s.lines.put d ⟨.INPUT, .RELEASED⟩, ctl := .READY, busy := false } ∧
      t.lines.get d = ⟨.INPUT, .RELEASED⟩ ∧ (∀ k, k ≠ d → t.lines.get k = s.lines.get k) ∧ t.level l = s.host.get l) ∧
  (∀ s : State, s.ctl = .OP_REL .RESET → exec (.rel .RESET) s = .next { s with faults := { s.faults with badArg := true } })

/-- R124, and R287 for the other internal operations: a caller that issues one records F_CONTRACT. -/
def Obligations.CallerIssueOfInternalOperationFaults : Prop :=
  ∀ (s : State) (i : Instr), s.ctl = .READY → s.busy = false →
    ((∃ l, i = .pull l) ∨ (∃ l, i = .rel l) ∨ (∃ d, i = .rxb d) ∨ (∃ b last, i = .txb b last) ∨ i = .turnaround ∨
      i = .undoTurnaround) →
    exec i s = .next { s with faults := { s.faults with contract := true } }

/-- R125: `set_pin_mode` where the contract admits it writes `mode[l]` alone. -/
def Obligations.ModeWritesTheModeAlone : Prop :=
  ∀ (s : State) (l : Line) (d : DLine) (m : PinMode),
    s.ctl = .READY → s.busy = false → s.phase = .NONE → lineDrivable l = some d →
    ¬ (m = .OUTPUT ∧ (s.lines.get d).drive = .RELEASED) →
    exec (.mode l m) s = .next { s with lines := s.lines.put d ⟨m, (s.lines.get d).drive⟩, pc := s.pc + 1 }

/-- Derived (R126, R127, R281; log 26): where a caller's `set_pin_mode` faults. -/
def Obligations.ModeFaultsOutsideTheContract : Prop :=
  ∀ (s : State) (l : Line) (m : PinMode), s.ctl = .READY → s.busy = false →
    (s.phase ≠ .NONE → exec (.mode l m) s = .next { s with faults := { s.faults with contract := true } }) ∧
    (∀ d, s.phase = .NONE → lineDrivable l = some d → m = .OUTPUT → (s.lines.get d).drive = .RELEASED →
      exec (.mode l m) s = .next { s with faults := { s.faults with contract := true } }) ∧
    (s.phase = .NONE → l = .RESET → exec (.mode l m) s = .next { s with faults := { s.faults with badArg := true } })

/-! ### Byte primitives at level T -/

/-- Derived (R132, R134): `receiveByte` issued by the block alone: its result, flags and posture on success; on failure a draw
(log 5). Its return to READY is log 13. -/
def Obligations.ReceiveByteReturnsTheByteOrError : Prop :=
  ∀ (s : State) (dev : Byte) (rest : List Turn),
    s.ctl = .OP_RXB dev → s.params.byteLevel = .T → s.error = false →
    (∀ b eoi, s.script = .hTalk (.ok b eoi) :: rest →
      exec (.rxb dev) s = .next { s with
        flags := if eoi then s.flags ||| 0x02#8 else s.flags &&& 0xFD#8
        lines := { s.lines with clock := ⟨.INPUT, .RELEASED⟩, data := ⟨.OUTPUT, .PULLED⟩ }
        r := some (.int16 (b.setWidth 16)), ctl := .READY, busy := false, script := rest }) ∧
    (s.script = .hTalk .fail :: rest →
      ∃ x y : LineReg, (x = ⟨.INPUT, .RELEASED⟩ ∨ x = ⟨.OUTPUT, .PULLED⟩) ∧ (y = ⟨.INPUT, .RELEASED⟩ ∨ y = ⟨.OUTPUT, .PULLED⟩) ∧
        s.params.rxErr.slt 0 = true ∧
        exec (.rxb dev) s = .next { s with
          flags := (s.flags ||| 0x01#8) &&& 0xFD#8
          lines := { s.lines with clock := x, data := y }
          r := some (.int16 s.params.rxErr), ctl := .READY, busy := false, script := rest, draws := s.draws + 2 })

/-- Derived (R136): `sendByte` issued by the block alone, with the byte and `isLast` of the step. Its return to READY is log 13. -/
def Obligations.SendByteReturnsWhetherAcknowledged : Prop :=
  ∀ (s : State) (b : Byte) (last : Bool) (rest : List Turn),
    s.ctl = .OP_TXB b last → s.params.byteLevel = .T → s.error = false →
    s.unitOp = some (.txb b last) ∧
    (s.script = .hListen .ack :: rest →
      exec (.txb b last) s = .next { s with
        flags := if last then s.flags ||| 0x02#8 else s.flags &&& 0xFD#8
        lines := { s.lines with clock := ⟨.OUTPUT, .PULLED⟩, data := ⟨.INPUT, .RELEASED⟩ }
        r := some (.bool true), ctl := .READY, busy := false, script := rest }) ∧
    (s.script = .hListen .fail :: rest →
      ∃ x y : LineReg, (x = ⟨.INPUT, .RELEASED⟩ ∨ x = ⟨.OUTPUT, .PULLED⟩) ∧ (y = ⟨.INPUT, .RELEASED⟩ ∨ y = ⟨.OUTPUT, .PULLED⟩) ∧
        exec (.txb b last) s = .next { s with
          flags := (s.flags ||| 0x01#8) &&& 0xFD#8
          lines := { s.lines with clock := x, data := y }
          r := some (.bool false), ctl := .READY, busy := false, script := rest, draws := s.draws + 2 })

/-- Derived (R131, R233, R281, R286): a byte primitive that starts with ERROR set faults and does nothing else, wherever a procedure
runs it; so do the caller's byte operations, issued in their phase, SENDS where it has a byte to send; the caller's fault leaves `ctl`
and `busy` as they are (log 27). -/
def Obligations.StickyErrorFaultsByteOperations : Prop :=
  ∀ s : State, s.error = true →
    (∀ i, s.shake = .idle → s.unitOp = some i → ((∃ d, i = .rxb d) ∨ (∃ b last, i = .txb b last)) →
      exec i s = .next { s with faults := { s.faults with stickyError := true } }) ∧
    (s.ctl = .READY → s.busy = false →
      (s.phase = .TALK → ∀ b, exec (.send b) s = .next { s with faults := { s.faults with stickyError := true } }) ∧
      (s.phase = .TALK → ∀ b, exec (.sendeoi b) s = .next { s with faults := { s.faults with stickyError := true } }) ∧
      (s.phase = .TALK → s.callerString ≠ [] → exec .sends s = .next { s with faults := { s.faults with stickyError := true } }) ∧
      (s.phase = .LISTEN → ∀ d has, exec (.recv d has) s = .next { s with faults := { s.faults with stickyError := true } }))

/-! ### `service` -/

/-- Derived (R170, R171, R184; log 6): a caller's SERVICE is admitted in every phase and its first step releases CLOCK. -/
def Obligations.ServiceStartsByReleasingClock : Prop :=
  ∀ s : State, s.ctl = .READY → s.busy = false →
    exec .service s = .next { s with lines := { s.lines with clock := ⟨.INPUT, .RELEASED⟩ }, ctl := .SV_ENTRY_DATA, busy := true }

/-- Derived (R171, R172, R173): the three entry steps of `service`, from any phase, counted from READY (log 6): the listener posture,
then the clearing, then the reset check, which is passed over where the parameter is false (log 15). -/
def Obligations.ServiceEntryTakesListenerPosture : Prop :=
  ∀ (s : State) (str : List Byte),
    s.unitAlone → s.ctl = .READY → s.busy = false → s.prog[s.pc]? = some (.op 0x10000000#32 str) →
    run 1 s = .next { s with lines := { s.lines with clock := ⟨.INPUT, .RELEASED⟩ }, ctl := .SV_ENTRY_DATA, busy := true } ∧
    run 2 s = .next { s with
      lines := { s.lines with clock := ⟨.INPUT, .RELEASED⟩, data := ⟨.OUTPUT, .PULLED⟩ }, ctl := .SV_INIT, busy := true } ∧
    run 3 s = .next { s with
      lines := { s.lines with clock := ⟨.INPUT, .RELEASED⟩, data := ⟨.OUTPUT, .PULLED⟩ }
      flags := 0#8, data := { s.data with valid := false }, phase := .NONE, prim := none
      ctl := if s.params.serviceChecksReset then .SV_RESET_CHECK else .SV_PRIMARY, busy := true } ∧
    (∀ t, run 2 s = .next t → t.level .DATA = .PULLED)

/-- Derived (R170, R173; log 15): at the reset check, RESET pulled starts the exit with RESET where the parameter is true; with the
parameter false RESET is not read; else the primary byte is next. -/
def Obligations.ResetCheckSamplesResetOnce : Prop :=
  ∀ s : State, s.ctl = .SV_RESET_CHECK →
    (s.params.serviceChecksReset = true → s.host.reset = .PULLED →
      exec .service s = .next { s with ctl := .RL_CLK (.exit .RESET) }) ∧
    (s.params.serviceChecksReset = false ∨ s.host.reset = .RELEASED → exec .service s = .next { s with ctl := .SV_PRIMARY })

/-- Derived (R132, R174, R198, R255): the primary byte: received, it is decoded next and no field of `D` is written; the failed receive
ends `service` with ERROR in six steps (the last of them the bookkeeping of log 15), ERROR still set. -/
def Obligations.PrimaryReceiveTakesOneByteOrEndsWithError : Prop :=
  ∀ s : State, s.ctl = .SV_PRIMARY → s.params.byteLevel = .T → s.error = false →
    (∀ b eoi rest, s.script = .hTalk (.ok b eoi) :: rest →
      exec (.rxb 0) s = .next { s with
        flags := if eoi then s.flags ||| 0x02#8 else s.flags &&& 0xFD#8
        lines := { s.lines with clock := ⟨.INPUT, .RELEASED⟩, data := ⟨.OUTPUT, .PULLED⟩ }
        ctl := .SV_DECODE1 b, script := rest }) ∧
    (s.faults = .empty → s.script = [.hTalk .fail] →
      ∃ t, run 6 s = .next t ∧ t.error = true ∧
        t = { s with
          flags := (s.flags ||| 0x01#8) &&& 0xFD#8
          lines := ⟨⟨.INPUT, .RELEASED⟩, ⟨.INPUT, .RELEASED⟩, ⟨.INPUT, .RELEASED⟩, ⟨.INPUT, .RELEASED⟩⟩
          data := { s.data with valid := false }, phase := .NONE, r := some (.bus .ERROR), ctl := .READY, busy := false
          pc := s.pc + 1, script := [], draws := s.draws + 2 })

/-- Derived (R175, R176): what each code does as the primary byte. That a code is an instruction with that effect at SV_DECODE1 is log 14,
the six constructors of NONE are log 18. -/
def Obligations.PrimaryCodeWritesItsFields : Prop :=
  ∀ (s : State) (b : Byte), s.ctl = .SV_DECODE1 b →
    exec .atnUnlisten s = .next { s with data := { s.data with command := some .UNLISTEN }, ctl := .RL_CLK (.exit .IDLE) } ∧
    exec .atnUntalk s = .next { s with data := { s.data with command := some .UNTALK }, ctl := .RL_CLK (.exit .IDLE) } ∧
    (∀ d, exec (.atnGlobal d) s =
      .next { s with data := { s.data with command := some .GLOBAL, device := some (d.setWidth 5) }, ctl := .SV_GATE }) ∧
    (∀ d, exec (.atnListen d) s =
      .next { s with data := { s.data with command := some .LISTEN, device := some (d.setWidth 5) }, ctl := .SV_GATE }) ∧
    (∀ d, exec (.atnTalk d) s =
      .next { s with data := { s.data with command := some .TALK, device := some (d.setWidth 5) }, ctl := .SV_GATE }) ∧
    (∀ c, exec (.atnSecond c) s =
      .next { s with data := { s.data with command := some .SECOND, channel := some c }, ctl := .SV_GATE }) ∧
    (∀ c, exec (.atnClose c) s =
      .next { s with data := { s.data with command := some .CLOSE, channel := some c }, ctl := .SV_GATE }) ∧
    (∀ c, exec (.atnOpen c) s =
      .next { s with data := { s.data with command := some .OPEN, channel := some c }, ctl := .SV_GATE }) ∧
    (∀ i : Instr, i.wf = true → (∃ x, i = .atnNone1 x ∨ i = .atnNone3 x ∨ i = .atnNone5 x ∨ i = .atnNone7 x) ∨ (∃ x, i = .atnNone8 x) ∨
        (∃ x, i = .atnNoneC x) →
      exec i s = .next { s with data := { s.data with command := some .NONE }, ctl := .SV_GATE })

/-- R177: the device-address gate. -/
def Obligations.GatePassesEnabledListenAndTalk : Prop :=
  ∀ s : State, s.ctl = .SV_GATE →
    (∀ d, s.data.command = some .LISTEN → s.data.device = some d → s.enabled.getLsbD d.toNat = true →
      exec .service s = .next { s with prim := some .LISTEN, ctl := .SV_SECONDARY }) ∧
    (∀ d, s.data.command = some .TALK → s.data.device = some d → s.enabled.getLsbD d.toNat = true →
      exec .service s = .next { s with prim := some .TALK, ctl := .SV_SECONDARY }) ∧
    (∀ d, s.data.command = some .LISTEN ∨ s.data.command = some .TALK → s.data.device = some d →
      s.enabled.getLsbD d.toNat = false → exec .service s = .next { s with ctl := .RL_CLK (.exit .IDLE) }) ∧
    (∀ c, s.data.command = some c → c ≠ .LISTEN → c ≠ .TALK → exec .service s = .next { s with ctl := .RL_CLK (.exit .IDLE) })

/-- Derived (R179, with R97's "same function"): every code byte as the secondary byte, through its instruction (log 14) and through the
receive. -/
def Obligations.SecondaryCodeWritesCommandAndChannel : Prop :=
  ∀ (s : State) (b : Byte), s.ctl = .SV_SECONDARY →
    exec (decodeAtn b) s = .next { s with
      data := { s.data with command := some (atnCmd b), channel := some (b.extractLsb' 0 4), content := some [] }
      ctl := .SV_DISPATCH } ∧
    (∀ d eoi rest, s.data.device = some d → s.params.byteLevel = .T → s.error = false →
      s.script = .hTalk (.ok b eoi) :: rest →
      exec (.rxb (d.setWidth 8)) s = .next { s with
        flags := if eoi then s.flags ||| 0x02#8 else s.flags &&& 0xFD#8
        lines := { s.lines with clock := ⟨.INPUT, .RELEASED⟩, data := ⟨.OUTPUT, .PULLED⟩ }
        data := { s.data with command := some (atnCmd b), channel := some (b.extractLsb' 0 4), content := some [] }
        ctl := .SV_DISPATCH, script := rest })

/-- R180: dispatch reads `prim`, not `D.command`. -/
def Obligations.DispatchFollowsThePrimary : Prop :=
  ∀ s : State, s.ctl = .SV_DISPATCH →
    (s.prim = some .TALK → exec .service s = .next { s with ctl := .SV_TA }) ∧
    (s.prim = some .LISTEN → exec .service s = .next { s with ctl := .SV_LISTEN })

/-- Derived (R201, R202, R209, R210 at the step SV_LISTEN): the arms of the listen sub-state-machine. -/
def Obligations.ListenArmsFollowTheSecondary : Prop :=
  ∀ s : State, s.ctl = .SV_LISTEN →
    (∀ ch, s.data.command = some .SECOND → s.data.channel = some ch → ch ≠ 15#4 →
      exec .service s = .next { s with
        data := { s.data with valid := true }, phase := .LISTEN, r := some (.bus .LISTEN), ctl := .READY, busy := false
        pc := s.pc + 1 }) ∧
    (s.data.command = some .SECOND → s.data.channel = some 15#4 → exec .service s = .next { s with ctl := .SV_ACC_ATN }) ∧
    (s.data.command = some .OPEN → exec .service s = .next { s with ctl := .SV_ACC_ATN }) ∧
    (s.data.command = some .CLOSE →
      exec .service s = .next { s with
        data := { s.data with valid := true }, phase := .COMMAND, r := some (.bus .COMMAND), ctl := .READY, busy := false
        pc := s.pc + 1 }) ∧
    (∀ c, s.data.command = some c → c ≠ .SECOND → c ≠ .OPEN → c ≠ .CLOSE → s.data.content = some [] →
      exec .service s = .next { s with ctl := .RL_CLK (.exit .IDLE) })

/-- R203, its sample: ATN pulled at the start of an iteration starts the exit with IDLE, else the receive is next. -/
def Obligations.AccumulationSamplesAtnFirst : Prop :=
  ∀ s : State, s.ctl = .SV_ACC_ATN →
    (s.level .ATN = .PULLED → exec .service s = .next { s with ctl := .RL_CLK (.exit .IDLE) }) ∧
    (s.level .ATN = .RELEASED → exec .service s = .next { s with ctl := .SV_ACC_RX })

/-- Derived (R132, R205, R206, R207; R204 for the failure): a byte received inside a command string. -/
def Obligations.StringByteEndsSkipsOverflowsOrAppends : Prop :=
  ∀ (s : State) (d : BitVec 5) (str : List Byte) (c : Byte) (eoi : Bool) (rest : List Turn) (f : BitVec 8) (u : UnitLines),
    s.ctl = .SV_ACC_RX → s.data.device = some d → s.data.content = some str → s.params.byteLevel = .T → s.error = false →
    s.script = .hTalk (.ok c eoi) :: rest →
    f = (if eoi then s.flags ||| 0x02#8 else s.flags &&& 0xFD#8) →
    u = { s.lines with clock := ⟨.INPUT, .RELEASED⟩, data := ⟨.OUTPUT, .PULLED⟩ } →
    (c = 0x3F#8 → exec (.rxb (d.setWidth 8)) s = .next { s with flags := f, lines := u, ctl := .SV_ACC_END, script := rest }) ∧
    (c = 0x0D#8 → exec (.rxb (d.setWidth 8)) s = .next { s with flags := f, lines := u, ctl := .SV_ACC_ATN, script := rest }) ∧
    (c ≠ 0x3F#8 → c ≠ 0x0D#8 → str.length = s.params.cmdMax →
      exec (.rxb (d.setWidth 8)) s = .next { s with
        flags := f ||| 0x01#8, lines := u, ctl := .RL_CLK (.exit .ERROR), script := rest }) ∧
    (c ≠ 0x3F#8 → c ≠ 0x0D#8 → str.length ≠ s.params.cmdMax →
      exec (.rxb (d.setWidth 8)) s = .next { s with
        flags := f, lines := u, data := { s.data with content := some (str ++ [c]) }, ctl := .SV_ACC_ATN, script := rest })

/-- R174, R178, R204: a failed receive inside `service` starts the exit with ERROR, ERROR set and no field of `D` written. -/
def Obligations.FailedReceiveInServiceExitsWithError : Prop :=
  ∀ (s : State) (i : Instr) (rest : List Turn),
    s.ctl = .SV_PRIMARY ∨ s.ctl = .SV_SECONDARY ∨ s.ctl = .SV_ACC_RX → s.unitOp = some i →
    s.params.byteLevel = .T → s.error = false → s.script = .hTalk .fail :: rest →
    ∃ x y : LineReg, x.legal ∧ y.legal ∧ exec i s = .next { s with
      flags := (s.flags ||| 0x01#8) &&& 0xFD#8, lines := { s.lines with clock := x, data := y }
      ctl := .RL_CLK (.exit .ERROR), script := rest, draws := s.draws + 2 }

/-- R208: one trailing 0xA0 is removed, then COMMAND for a non-empty string and IDLE for an empty one. -/
def Obligations.EndOfStringTrimsOnePad : Prop :=
  ∀ (s : State) (str : List Byte), s.ctl = .SV_ACC_END → s.data.content = some str →
    (∀ front, str = front ++ [0xA0#8] → front ≠ [] →
      exec .service s = .next { s with
        data := { s.data with content := some front, valid := true }, phase := .COMMAND, r := some (.bus .COMMAND)
        ctl := .READY, busy := false, pc := s.pc + 1 }) ∧
    (str = [0xA0#8] ∨ str = [] →
      exec .service s = .next { s with data := { s.data with content := some [] }, ctl := .RL_CLK (.exit .IDLE) }) ∧
    (∀ front c, str = front ++ [c] → c ≠ 0xA0#8 →
      exec .service s = .next { s with
        data := { s.data with valid := true }, phase := .COMMAND, r := some (.bus .COMMAND)
        ctl := .READY, busy := false, pc := s.pc + 1 })

/-- R198, R255 for IDLE, ERROR and RESET: four release steps and the bookkeeping, with every line idle at the end. -/
def Obligations.SilentExitReleasesEveryLine : Prop :=
  ∀ (s : State) (S : BusState), s.unitAlone → s.ctl = .RL_CLK (.exit S) →
    run 5 s = .next { s with
      lines := ⟨⟨.INPUT, .RELEASED⟩, ⟨.INPUT, .RELEASED⟩, ⟨.INPUT, .RELEASED⟩, ⟨.INPUT, .RELEASED⟩⟩
      data := { s.data with valid := false }, phase := .NONE, r := some (.bus S), ctl := .READY, busy := false
      pc := s.pc + 1 }

/-- Derived (R202, R205 to R208 over a whole string: the §8 round trip, under W0, W1 and no ATN during the string; log 1, log 2): every
string of bytes other than 0x3F that fits, with no EOI, is captured without its carriage returns and without one trailing pad. -/
def Obligations.CommandStringIsCaptured : Prop :=
  ∀ (s : State) (d : BitVec 5) (str text : List Byte),
    s.ctl = .SV_ACC_ATN → s.faults = .empty → s.error = false → s.params.byteLevel = .T →
    s.level .ATN = .RELEASED → s.data.device = some d → s.data.content = some [] →
    0x3F#8 ∉ str → (str.filter (· != 0x0D#8)).length ≤ s.params.cmdMax →
    s.script = str.map (fun c => Turn.hTalk (.ok c false)) ++ [.hTalk (.ok 0x3F#8 false)] →
    (str.filter (· != 0x0D#8) = text ++ [0xA0#8] ∨ (str.filter (· != 0x0D#8) = text ∧ text.getLast? ≠ some 0xA0#8)) → text ≠ [] →
    run (2 * str.length + 3) s = .next { s with
      flags := s.flags &&& 0xFD#8
      lines := { s.lines with clock := ⟨.INPUT, .RELEASED⟩, data := ⟨.OUTPUT, .PULLED⟩ }
      data := { s.data with content := some text, valid := true }
      phase := .COMMAND, r := some (.bus .COMMAND), ctl := .READY, busy := false, pc := s.pc + 1, script := [] }

/-! ### Turnaround, undo-turnaround, waiting -/

/-- Derived (R220, R222, R223, with the TALK exit of R198): turnaround from its call, which is no step of its own (log 15), and from its wait:
with CLOCK released, in five steps;
with CLOCK pulled it holds (log 8), and goes on where the host then releases CLOCK (V-T2; log 1). -/
def Obligations.TurnaroundEndsInTalkerPosture : Prop :=
  ∀ s : State, s.ctl = .SV_TA ∨ s.ctl = .TA_WAIT →
    (s.level .CLOCK = .RELEASED → exec .turnaround s = .next { s with ctl := .TA_REL_DATA }) ∧
    (s.unitAlone → s.level .CLOCK = .RELEASED →
      run 2 s = .next { s with lines := { s.lines with data := ⟨.INPUT, .RELEASED⟩ }, ctl := .TA_D1 } ∧
      run 5 s = .next { s with
        lines := { s.lines with clock := ⟨.OUTPUT, .PULLED⟩, data := ⟨.INPUT, .RELEASED⟩ }
        data := { s.data with valid := true }, phase := .TALK, r := some (.bus .TALK), ctl := .READY, busy := false
        pc := s.pc + 1 }) ∧
    (s.script = [] → s.level .CLOCK = .PULLED → exec .turnaround s = .next { s with ctl := .TA_WAIT }) ∧
    (s.faults = .empty → s.script = [.hSet .CLOCK .RELEASED] → s.lines.clock = ⟨.INPUT, .RELEASED⟩ →
      run 6 s = .next { s with
        host := { s.host with clock := .RELEASED }
        lines := { s.lines with clock := ⟨.OUTPUT, .PULLED⟩, data := ⟨.INPUT, .RELEASED⟩ }
        data := { s.data with valid := true }, phase := .TALK, r := some (.bus .TALK), ctl := .READY, busy := false
        pc := s.pc + 1, script := [] })

/-- Derived (R225, R227, with `sendEOI`'s return, R234): undo-turnaround from its call, with CLOCK released by the host, in five steps; at its
wait with CLOCK pulled it holds (log 8), and returns where the host then releases CLOCK (V-T5; log 1). -/
def Obligations.UndoTurnaroundEndsInListenerPosture : Prop :=
  ∀ s : State,
    (s.ctl = .UT_PULL_DATA →
      exec .undoTurnaround s = .next { s with lines := { s.lines with data := ⟨.OUTPUT, .PULLED⟩ }, ctl := .UT_D1 } ∧
      (s.unitAlone → s.host.clock = .RELEASED →
        run 5 s = .next { s with
          lines := { s.lines with clock := ⟨.INPUT, .RELEASED⟩, data := ⟨.OUTPUT, .PULLED⟩ }
          phase := .TALK_DONE, r := some (.bool true), ctl := .READY, busy := false, pc := s.pc + 1 })) ∧
    (s.ctl = .UT_WAIT →
      (s.level .CLOCK = .RELEASED →
        exec .undoTurnaround s = .next { s with
          phase := .TALK_DONE, r := some (.bool true), ctl := .READY, busy := false, pc := s.pc + 1 }) ∧
      (s.script = [] → s.level .CLOCK = .PULLED → exec .undoTurnaround s = .next s) ∧
      (s.faults = .empty → s.script = [.hSet .CLOCK .RELEASED] → s.lines.clock = ⟨.INPUT, .RELEASED⟩ →
        run 2 s = .next { s with
          host := { s.host with clock := .RELEASED }
          phase := .TALK_DONE, r := some (.bool true), ctl := .READY, busy := false, pc := s.pc + 1, script := [] }))

/-- Derived (R291 at level T; log 8): inside an operation the unit holds, that is a step with no host turn changes nothing, at exactly these points. -/
def Obligations.UnitHoldsExactlyAtTheHoldPoints : Prop :=
  ∀ s : State, s.Inv → s.unitAlone → s.ctl ≠ .READY → s.params.byteLevel = .T →
    (step s = .next s ↔
      ((∃ i, s.unitOp = some i ∧ s.error = false ∧ ((∃ d, i = .rxb d) ∨ (∃ b last, i = .txb b last))) ∨
       (s.ctl = .TA_WAIT ∧ s.level .CLOCK = .PULLED) ∨
       (s.ctl = .UT_WAIT ∧ s.level .CLOCK = .PULLED) ∨
       (s.ctl = .RL_WAIT true ∧ s.level .ATN = .PULLED)))

/-- Derived (R62, R63, R221, R226, R256; log 1): a timeout met at each spin-wait whose condition is false, turnaround's call (log 15) included:
under BOUNDED it sets ERROR and ends the wait; under UNBOUNDED it ends nothing (log 8). -/
def Obligations.BoundedWaitTimeoutSetsError : Prop :=
  ∀ (s : State) (rest : List Turn), s.faults = .empty → s.script = .timeout :: rest →
    (s.params.spinPolicy = .BOUNDED →
      (s.ctl = .SV_TA ∨ s.ctl = .TA_WAIT → s.level .CLOCK = .PULLED →
        step s = .next { s with flags := s.flags ||| 0x01#8, ctl := .RL_CLK (.exit .ERROR), script := rest }) ∧
      (s.ctl = .UT_WAIT → s.level .CLOCK = .PULLED →
        step s = .next { s with
          flags := s.flags ||| 0x01#8, phase := .TALK_DONE, r := some (.bool false), ctl := .READY, busy := false
          pc := s.pc + 1, script := rest }) ∧
      (s.ctl = .RL_WAIT true → s.level .ATN = .PULLED →
        step s = .next { s with
          flags := s.flags ||| 0x01#8, data := { s.data with valid := false }, phase := .NONE, ctl := .READY, busy := false
          pc := s.pc + 1, script := rest })) ∧
    (s.params.spinPolicy = .UNBOUNDED →
      (s.ctl = .SV_TA ∨ s.ctl = .TA_WAIT → s.level .CLOCK = .PULLED → step s = .next { s with ctl := .TA_WAIT }) ∧
      (s.ctl = .UT_WAIT → s.level .CLOCK = .PULLED → step s = .next s) ∧
      (s.ctl = .RL_WAIT true → s.level .ATN = .PULLED → step s = .next s))

/-! ### Data phase -/

/-- Derived (R136, R230; log 2, log 6): `send(byte)`, answered as it is issued or after a hold at OP_SEND: its result, flags and posture; with
no answer waiting it holds there (log 8), with that byte, not the last one, on offer. -/
def Obligations.SendReturnsWhetherAcknowledged : Prop :=
  (∀ (s : State) (i : Instr) (b : Byte), s.params.byteLevel = .T → s.error = false →
    (i = .send b ∧ s.ctl = .READY ∧ s.busy = false ∧ s.phase = .TALK) ∨ (i = .txb b false ∧ s.ctl = .OP_SEND b ∧ s.busy = true) →
    (∀ rest, s.script = .hListen .ack :: rest →
      exec i s = .next { s with
        flags := s.flags &&& 0xFD#8
        lines := { s.lines with clock := ⟨.OUTPUT, .PULLED⟩, data := ⟨.INPUT, .RELEASED⟩ }
        r := some (.bool true), ctl := .READY, busy := false, pc := s.pc + 1, script := rest }) ∧
    (∀ rest, s.script = .hListen .fail :: rest →
      ∃ x y : LineReg, x.legal ∧ y.legal ∧ exec i s = .next { s with
        flags := (s.flags ||| 0x01#8) &&& 0xFD#8, lines := { s.lines with clock := x, data := y }
        r := some (.bool false), ctl := .READY, busy := false, pc := s.pc + 1, script := rest, draws := s.draws + 2 }) ∧
    ((∀ a rest, s.script ≠ .hListen a :: rest) → exec i s = .next { s with ctl := .OP_SEND b, busy := true })) ∧
  (∀ (s : State) (b : Byte), s.ctl = .OP_SEND b → s.unitOp = some (.txb b false))

/-- Derived (R232, R233; log 2, log 6, the string operand log 23, a hold log 8): `send(string)`: the empty string returns true at once; at OP_SENDS(i) the byte
on offer is the string's byte i, not the last one; after i acknowledged bytes the unit is at OP_SENDS(i), a string whose every byte is
acknowledged returns true, and the first byte not acknowledged ends it with false; each byte may be answered after a hold. -/
def Obligations.SendStringStopsAtTheFirstFailure : Prop :=
  ∀ (s : State) (str : List Byte), s.params.byteLevel = .T → s.prog[s.pc]? = some (.op 0x12000000#32 str) →
    (s.ctl = .READY → s.busy = false → s.phase = .TALK → s.faults = .empty →
      (str = [] → exec .sends s = .next { s with r := some (.bool true), pc := s.pc + 1 }) ∧
      (s.error = false → str ≠ [] → (∀ a rest, s.script ≠ .hListen a :: rest) →
        exec .sends s = .next { s with ctl := .OP_SENDS 0, busy := true }) ∧
      (s.error = false → ∀ n rest, 0 < n → n < str.length → s.script = List.replicate n (Turn.hListen .ack) ++ rest →
        run n s = .next { s with
          flags := s.flags &&& 0xFD#8
          lines := { s.lines with clock := ⟨.OUTPUT, .PULLED⟩, data := ⟨.INPUT, .RELEASED⟩ }
          ctl := .OP_SENDS n, busy := true, script := rest }) ∧
      (s.error = false → ∀ rest, str ≠ [] → s.script = List.replicate str.length (Turn.hListen .ack) ++ rest →
        run str.length s = .next { s with
          flags := s.flags &&& 0xFD#8
          lines := { s.lines with clock := ⟨.OUTPUT, .PULLED⟩, data := ⟨.INPUT, .RELEASED⟩ }
          r := some (.bool true), pc := s.pc + 1, script := rest }) ∧
      (s.error = false → ∀ n rest, n < str.length →
        s.script = List.replicate n (Turn.hListen .ack) ++ .hListen .fail :: rest →
        ∃ x y : LineReg, x.legal ∧ y.legal ∧ run (n + 1) s = .next { s with
          flags := (s.flags ||| 0x01#8) &&& 0xFD#8, lines := { s.lines with clock := x, data := y }
          r := some (.bool false), pc := s.pc + 1, script := rest, draws := s.draws + 2 })) ∧
    (∀ (n : Nat) (b : Byte), s.ctl = .OP_SENDS n → str[n]? = some b →
      s.unitOp = some (.txb b false) ∧
      (s.error = false →
        (∀ rest, s.script = .hListen .ack :: rest → n + 1 < str.length →
          exec (.txb b false) s = .next { s with
            flags := s.flags &&& 0xFD#8
            lines := { s.lines with clock := ⟨.OUTPUT, .PULLED⟩, data := ⟨.INPUT, .RELEASED⟩ }
            ctl := .OP_SENDS (n + 1), script := rest }) ∧
        (∀ rest, s.script = .hListen .ack :: rest → n + 1 = str.length →
          exec (.txb b false) s = .next { s with
            flags := s.flags &&& 0xFD#8
            lines := { s.lines with clock := ⟨.OUTPUT, .PULLED⟩, data := ⟨.INPUT, .RELEASED⟩ }
            r := some (.bool true), ctl := .READY, busy := false, pc := s.pc + 1, script := rest }) ∧
        (∀ rest, s.script = .hListen .fail :: rest →
          ∃ x y : LineReg, x.legal ∧ y.legal ∧ exec (.txb b false) s = .next { s with
            flags := (s.flags ||| 0x01#8) &&& 0xFD#8, lines := { s.lines with clock := x, data := y }
            r := some (.bool false), ctl := .READY, busy := false, pc := s.pc + 1, script := rest, draws := s.draws + 2 }) ∧
        ((∀ a rest, s.script ≠ .hListen a :: rest) → exec (.txb b false) s = .next s)))

/-- Derived (R225, R234, R235; log 2, log 6): `sendEOI`, answered as it is issued or after a hold at OP_SENDEOI: an acknowledged byte leads to
undo-turnaround, and with CLOCK released by the host (W3) six steps from the issue return true; a failed one returns false without it; with no
answer waiting it holds (log 8), with that byte, the last one, on offer. -/
def Obligations.SendEoiRunsUndoTurnaround : Prop :=
  (∀ (s : State) (i : Instr) (b : Byte), s.params.byteLevel = .T → s.error = false →
    (i = .sendeoi b ∧ s.ctl = .READY ∧ s.busy = false ∧ s.phase = .TALK) ∨ (i = .txb b true ∧ s.ctl = .OP_SENDEOI b ∧ s.busy = true) →
    (∀ rest, s.script = .hListen .ack :: rest →
      exec i s = .next { s with
        flags := s.flags ||| 0x02#8
        lines := { s.lines with clock := ⟨.OUTPUT, .PULLED⟩, data := ⟨.INPUT, .RELEASED⟩ }
        ctl := .UT_PULL_DATA, busy := true, script := rest }) ∧
    (∀ rest, s.script = .hListen .fail :: rest →
      ∃ x y : LineReg, x.legal ∧ y.legal ∧ exec i s = .next { s with
        flags := (s.flags ||| 0x01#8) &&& 0xFD#8, lines := { s.lines with clock := x, data := y }
        phase := .TALK_DONE, r := some (.bool false), ctl := .READY, busy := false, pc := s.pc + 1, script := rest
        draws := s.draws + 2 }) ∧
    ((∀ a rest, s.script ≠ .hListen a :: rest) → exec i s = .next { s with ctl := .OP_SENDEOI b, busy := true })) ∧
  (∀ (s : State) (b : Byte) (w : OpWord) (str : List Byte),
    s.ctl = .READY → s.busy = false → s.phase = .TALK → s.params.byteLevel = .T → s.error = false →
    s.script = [.hListen .ack] → s.faults = .empty → s.host.clock = .RELEASED →
    s.prog[s.pc]? = some (.op w str) → decodeOp w = .ok (.sendeoi b) →
    run 6 s = .next { s with
      flags := s.flags ||| 0x02#8
      lines := { s.lines with clock := ⟨.INPUT, .RELEASED⟩, data := ⟨.OUTPUT, .PULLED⟩ }
      phase := .TALK_DONE, r := some (.bool true), pc := s.pc + 1, script := [] }) ∧
  (∀ (s : State) (b : Byte), s.ctl = .OP_SENDEOI b → s.unitOp = some (.txb b true))

/-- R237: `sendFNF` releases DATA and CLOCK, delays, and returns true, with no flag written and no sticky-error check. -/
def Obligations.SendFnfReleasesDataAndClock : Prop :=
  ∀ s : State, s.ctl = .READY → s.busy = false → s.phase = .TALK →
    exec .sendfnf s = .next { s with
      lines := { s.lines with data := ⟨.INPUT, .RELEASED⟩ }, ctl := .FNF_REL_CLK, busy := true } ∧
    (∀ w str, s.unitAlone → s.prog[s.pc]? = some (.op w str) → decodeOp w = .ok .sendfnf →
      run 3 s = .next { s with
        lines := { s.lines with clock := ⟨.INPUT, .RELEASED⟩, data := ⟨.INPUT, .RELEASED⟩ }
        phase := .TALK_DONE, r := some (.bool true), pc := s.pc + 1 })

/-- Derived (R132, R240; log 2, log 6): `receive` in both forms, answered as it is issued or after a hold at OP_RECV: the byte, or the negative
error result; with no answer waiting it holds there (log 8). -/
def Obligations.ReceiveReturnsTheByteOrError : Prop :=
  (∀ (s : State) (i : Instr) (dev d : Byte) (has : Bool), s.params.byteLevel = .T → s.error = false → d = (if has then dev else 0) →
    (i = .recv dev has ∧ s.ctl = .READY ∧ s.busy = false ∧ s.phase = .LISTEN) ∨ (i = .rxb d ∧ s.ctl = .OP_RECV d ∧ s.busy = true) →
    (∀ b eoi rest, s.script = .hTalk (.ok b eoi) :: rest →
      exec i s = .next { s with
        flags := if eoi then s.flags ||| 0x02#8 else s.flags &&& 0xFD#8
        lines := { s.lines with clock := ⟨.INPUT, .RELEASED⟩, data := ⟨.OUTPUT, .PULLED⟩ }
        r := some (.int16 (b.setWidth 16)), ctl := .READY, busy := false, pc := s.pc + 1, script := rest }) ∧
    (∀ rest, s.script = .hTalk .fail :: rest →
      s.params.rxErr.slt 0 = true ∧
      ∃ x y : LineReg, x.legal ∧ y.legal ∧ exec i s = .next { s with
        flags := (s.flags ||| 0x01#8) &&& 0xFD#8, lines := { s.lines with clock := x, data := y }
        r := some (.int16 s.params.rxErr), ctl := .READY, busy := false, pc := s.pc + 1, script := rest, draws := s.draws + 2 }) ∧
    ((∀ a rest, s.script ≠ .hTalk a :: rest) → exec i s = .next { s with ctl := .OP_RECV d, busy := true })) ∧
  (∀ (s : State) (d : Byte), s.ctl = .OP_RECV d → s.unitOp = some (.rxb d))

/-- Derived (R51, R287): the data-phase operations outside their phase. -/
def Obligations.DataPhaseOperationsFaultOutsideTheirPhase : Prop :=
  ∀ s : State, s.ctl = .READY → s.busy = false →
    (∀ i, s.phase ≠ .TALK → ((∃ b, i = .send b) ∨ i = .sends ∨ (∃ b, i = .sendeoi b) ∨ i = .sendfnf) →
      exec i s = .next { s with faults := { s.faults with contract := true } }) ∧
    (∀ d has, s.phase ≠ .LISTEN → exec (.recv d has) s = .next { s with faults := { s.faults with contract := true } })

/-! ### Enabled-Device Set and releaseLines -/

/-- R250: `isDeviceEnabled`. -/
def Obligations.IsDeviceEnabledReadsTheBit : Prop :=
  ∀ (s : State) (d : Byte), s.ctl = .READY → s.busy = false → d.toNat ≤ 30 →
    exec (.isen d) s = .next { s with r := some (.bool (s.enabled.getLsbD d.toNat)), pc := s.pc + 1 }

/-- R251, R252: `enableDevice` and `disableDevice` write one bit. -/
def Obligations.EnableAndDisableWriteOneBit : Prop :=
  ∀ (s : State) (d : Byte), s.ctl = .READY → s.busy = false → d.toNat ≤ 30 →
    (∃ e : BitVec 31, exec (.en d) s = .next { s with enabled := e, pc := s.pc + 1 } ∧
      e.getLsbD d.toNat = true ∧ ∀ k, k ≠ d.toNat → e.getLsbD k = s.enabled.getLsbD k) ∧
    (∃ e : BitVec 31, exec (.dis d) s = .next { s with enabled := e, pc := s.pc + 1 } ∧
      e.getLsbD d.toNat = false ∧ ∀ k, k ≠ d.toNat → e.getLsbD k = s.enabled.getLsbD k)

/-- R253: a device above 30. -/
def Obligations.DeviceAboveThirtyFaults : Prop :=
  ∀ (s : State) (d : Byte) (i : Instr), s.ctl = .READY → s.busy = false → 30 < d.toNat → (i = .isen d ∨ i = .en d ∨ i = .dis d) →
    exec i s = .next { s with faults := { s.faults with badArg := true } }

/-- Derived (R254, R255; log 2, log 6): `releaseLines` from its issue, in five steps; with `wait`, where the host has released ATN; at its wait
with ATN pulled it holds (log 8), and returns where the host then releases ATN (V-RL2; log 1). -/
def Obligations.ReleaseLinesReturnsTheBusToIdle : Prop :=
  ∀ (s : State) (wait : Bool),
    (s.ctl = .READY → s.busy = false →
      exec (.rell wait) s = .next { s with
        lines := { s.lines with clock := ⟨.INPUT, .RELEASED⟩ }, ctl := .RL_DATA (.lines wait), busy := true } ∧
      (∀ w str, s.unitAlone → s.prog[s.pc]? = some (.op w str) → decodeOp w = .ok (.rell wait) →
        wait = false ∨ s.host.atn = .RELEASED →
        run 5 s = .next { s with
          lines := ⟨⟨.INPUT, .RELEASED⟩, ⟨.INPUT, .RELEASED⟩, ⟨.INPUT, .RELEASED⟩, ⟨.INPUT, .RELEASED⟩⟩
          data := { s.data with valid := false }, phase := .NONE, pc := s.pc + 1 })) ∧
    (s.ctl = .RL_WAIT wait →
      (wait = false ∨ s.level .ATN = .RELEASED →
        exec (.rell wait) s = .next { s with
          data := { s.data with valid := false }, phase := .NONE, ctl := .READY, busy := false, pc := s.pc + 1 }) ∧
      (wait = true → s.script = [] → s.level .ATN = .PULLED → exec (.rell wait) s = .next s) ∧
      (s.faults = .empty → s.script = [.hSet .ATN .RELEASED] → s.lines.atn = ⟨.INPUT, .RELEASED⟩ →
        run 2 s = .next { s with
          host := { s.host with atn := .RELEASED }
          data := { s.data with valid := false }, phase := .NONE, ctl := .READY, busy := false, pc := s.pc + 1, script := [] }))

/-- Derived (R254, R257; the steps counted from the issue log 6, the caller's position log 2): `releaseLines(false)` twice in a row: no
error, CLOCK and DATA released, and the second call changes nothing but the caller's position. -/
def Obligations.ReleaseLinesTwiceIsOnce : Prop :=
  ∀ (s : State) (str1 str2 : List Byte), s.unitAlone → s.ctl = .READY → s.busy = false →
    s.prog[s.pc]? = some (.op 0x19000000#32 str1) → s.prog[s.pc + 1]? = some (.op 0x19000000#32 str2) →
    ∃ t, run 5 s = .next t ∧ run 10 s = .next { t with pc := t.pc + 1 } ∧
      t.lines.clock = ⟨.INPUT, .RELEASED⟩ ∧ t.lines.data = ⟨.INPUT, .RELEASED⟩ ∧ t.faults = .empty ∧ t.flags = s.flags ∧ t.r = s.r

/-! ### Rules of the whole machine -/

/-- Every step keeps the invariant (R27, R28, R33, R35, R38, R39, R51, R53 in one). -/
def Obligations.EveryStepKeepsTheInvariant : Prop :=
  ∀ s t : State, s.Inv → step s = .next t → t.Inv

/-- The invariant holds after construction with any parameters and any host. -/
def Obligations.ConstructionHasTheInvariant : Prop :=
  ∀ (p : Params) (h : HostLines), (State.construct p h).Inv

/-- From the invariant a step never refuses, and stops only after a recorded fault (R285) or where a branch of the caller reads
`r = ⊥` (R13). -/
def Obligations.MachineStopsOnlyAfterAFaultOrAnUnwrittenResult : Prop :=
  ∀ s : State, s.Inv →
    (∀ x, step s ≠ .refused x) ∧
    (∀ x, step s = .fault x →
      (x = .quiescent ∧ s.faults ≠ .empty) ∨ (x = .readUnwritten ∧ s.ctl = .READY ∧ s.r = none))

/-- R42: of all the instructions only EN and DIS change the Enabled-Device Set, and no other kind of step does. -/
def Obligations.EnabledSetChangesOnlyByEnableAndDisable : Prop :=
  (∀ (i : Instr) (s t : State), exec i s = .next t → (∀ d, i ≠ .en d ∧ i ≠ .dis d) → t.enabled = s.enabled) ∧
  (∀ s t : State, step s = .next t → t.enabled ≠ s.enabled → ∃ i, ((∃ d, i = .en d) ∨ (∃ d, i = .dis d)) ∧
    (s.unitOp = some i ∨ ∃ w str, s.ctl = .READY ∧ s.prog[s.pc]? = some (.op w str) ∧ decodeOp w = .ok i))

/-- R31: the only step that clears ERROR is SV_INIT of `service`. -/
def Obligations.ErrorIsClearedOnlyAtServiceEntry : Prop :=
  ∀ s t : State, step s = .next t → s.error = true → t.error = false → s.ctl = .SV_INIT

/-- Derived (R25, R67; that the parameters of R49 stand in State and no step writes one is log 3, the turns log 1): no unit step writes the host's
lines; an H_SET turn sets the line it names and does nothing else; a step that changes the host's lines is such a turn; no step writes a
parameter. -/
def Obligations.HostLinesChangeOnlyByHostSteps : Prop :=
  (∀ (i : Instr) (s t : State), exec i s = .next t → t.host = s.host ∧ t.params = s.params) ∧
  (∀ s t : State, step s = .next t → t.params = s.params ∧
    (t.host = s.host ∨ ∃ l v rest, s.script = .hSet l v :: rest ∧ t = { s with host := s.host.put l v, script := rest })) ∧
  (∀ (s : State) (l : Line) (v : Level) (rest : List Turn), s.faults = .empty → s.script = .hSet l v :: rest →
    ∃ h : HostLines, step s = .next { s with host := h, script := rest } ∧ h.get l = v ∧ ∀ k, k ≠ l → h.get k = s.host.get k)

/-- R285, R52: after a fault no step is taken, no instruction removes a reason, and the reasons' numbers are 1 to 5, a set's numbers those
of the reasons it holds. -/
def Obligations.FaultsOnlyGrowAndStopTheUnit : Prop :=
  (∀ s : State, s.faults ≠ .empty → step s = .fault .quiescent) ∧
  (∀ (i : Instr) (s t : State) (x : FaultReason), exec i s = .next t → s.faults.has x = true → t.faults.has x = true) ∧
  (FaultReason.F_STICKY_ERROR.code = 1 ∧ FaultReason.F_CONTRACT.code = 2 ∧ FaultReason.F_BAD_ARG.code = 3 ∧
    FaultReason.F_BAD_OP.code = 4 ∧ FaultReason.F_REENTRY.code = 5) ∧
  (∀ (f : FaultSet) (n : Nat), n ∈ f.codes ↔ ∃ x : FaultReason, x.code = n ∧ f.has x = true)

/-- R290: an operation word issued while an operation is in progress, other than the one the block's own procedure runs
there; and a second caller's word that decodes. -/
def Obligations.IssueWhileBusyFaultsReentry : Prop :=
  (∀ (i : Instr) (w : OpWord) (s : State), encode i = .opWord w → s.busy = true → s.unitOp ≠ some i →
    exec i s = .next { s with faults := { s.faults with reentry := true } }) ∧
  (∀ (s : State) (w : OpWord) (i : Instr) (rest : List Turn), s.faults = .empty → s.busy = true → s.script = .intrude w :: rest →
    decodeOp w = .ok i → step s = .next { s with faults := { s.faults with reentry := true }, script := rest })

/-- Derived (R13, R66, R110; line numbers log 2, 16-bit numbers log 11): a caller's branch changes the caller's position and nothing else; BEQ and
BLT0 stop where `r` is unwritten (log 10). -/
def Obligations.BranchesMoveTheCallerAlone : Prop :=
  ∀ (s : State) (target : Nat), s.unitAlone → s.ctl = .READY →
    (s.prog[s.pc]? = some (.br target) → step s = .next { s with pc := target }) ∧
    (∀ v x, s.prog[s.pc]? = some (.beq v target) → s.r = some x →
      step s = .next { s with pc := if resultCode x = v then target else s.pc + 1 }) ∧
    (∀ x, s.prog[s.pc]? = some (.blt0 target) → s.r = some x →
      step s = .next { s with pc := if (resultCode x).slt 0 then target else s.pc + 1 }) ∧
    (∀ v, s.prog[s.pc]? = some (.beq v target) ∨ s.prog[s.pc]? = some (.blt0 target) → s.r = none → step s = .fault .readUnwritten) ∧
    (s.prog[s.pc]? = some (.beoi target) → step s = .next { s with pc := if s.eoi then target else s.pc + 1 }) ∧
    (s.prog[s.pc]? = some (.berr target) → step s = .next { s with pc := if s.error then target else s.pc + 1 })

/-- Derived (R150, R151, R153, R154; log 16, a hold log 8): each step of a level-L receive, of `service` or of the data phase, in the listener
posture with ERROR clear: still under way, with nothing but DATA, the script and the handshake's position changed, or ended exactly as the
level-T receive ends for some answer of the host (with the byte and EOI it has assembled), CLOCK released and, on success, DATA pulled. And,
step by step: the ready wait, with no limit; DATA released; the EOI wait, whose timeout is the EOI; its acknowledge, DATA pulled and
released; the timed waits; the frame acknowledge. The bit cells are LineLevelBitsAssembleTheByte. -/
def Obligations.LineLevelReceiveRefinesTheRendezvous : Prop :=
  (∀ (s : State) (dev : Byte),
    s.params.byteLevel = .L → s.ctl.receives = true → s.unitOp = some (.rxb dev) → s.error = false →
    s.lines.clock = ⟨.INPUT, .RELEASED⟩ → s.lines.data.legal → (s.ctl = .SV_ACC_RX → s.data.content.isSome) →
    ∃ (t : State) (rest : List Turn) (y : LineReg), exec (.rxb dev) s = .next t ∧
      (rest = s.script ∨ s.script = .timeout :: rest) ∧ y.legal ∧
      ((∃ k, t = { s with lines := { s.lines with data := y }, script := rest, shake := k } ∧
          (k = s.shake ∨ ∃ p eoi acc, k = .rx p eoi acc)) ∨
       (∃ a u, exec (.rxb dev) { s with
            params := { s.params with byteLevel := .T }, shake := .idle, script := .hTalk a :: rest } = .next u ∧
          t = { u with params := s.params, lines := { s.lines with data := y }, draws := s.draws } ∧
          (a ≠ .fail → y = ⟨.OUTPUT, .PULLED⟩) ∧
          (∀ eoi acc, s.shake = .rx .ack eoi acc → a = .ok acc eoi)))) ∧
  (∀ (s : State) (dev : Byte) (eoi : Bool) (acc : Byte),
    s.params.byteLevel = .L → s.ctl.receives = true → s.unitOp = some (.rxb dev) → s.error = false →
    (s.ctl = .SV_ACC_RX → s.data.content.isSome) →
    (s.shake = .idle ∨ s.shake = .rx .waitReady eoi acc →
      (s.level .CLOCK = .RELEASED → exec (.rxb dev) s = .next { s with shake := .rx .relData false 0 }) ∧
      (s.level .CLOCK = .PULLED → exec (.rxb dev) s = .next s)) ∧
    (s.shake = .rx .relData eoi acc →
      exec (.rxb dev) s = .next { s with
        lines := { s.lines with data := ⟨.INPUT, .RELEASED⟩ }, shake := .rx .waitEoi eoi acc }) ∧
    (s.shake = .rx .waitEoi eoi acc →
      (s.level .CLOCK = .PULLED → exec (.rxb dev) s = .next { s with shake := .rx (.bitRise 0) eoi acc }) ∧
      (s.level .CLOCK = .RELEASED →
        (∀ rest, s.script = .timeout :: rest →
          exec (.rxb dev) s = .next { s with script := rest, shake := .rx .eoiPull true acc }) ∧
        ((∀ rest, s.script ≠ .timeout :: rest) → exec (.rxb dev) s = .next s))) ∧
    (s.shake = .rx .eoiPull eoi acc →
      exec (.rxb dev) s = .next { s with
        lines := { s.lines with data := ⟨.OUTPUT, .PULLED⟩ }, shake := .rx .eoiHold eoi acc }) ∧
    (s.shake = .rx .eoiHold eoi acc → exec (.rxb dev) s = .next { s with shake := .rx .eoiRel eoi acc }) ∧
    (s.shake = .rx .eoiRel eoi acc →
      exec (.rxb dev) s = .next { s with
        lines := { s.lines with data := ⟨.INPUT, .RELEASED⟩ }, shake := .rx .eoiEnd eoi acc }) ∧
    (s.shake = .rx .eoiEnd eoi acc → s.level .CLOCK = .PULLED →
      exec (.rxb dev) s = .next { s with shake := .rx (.bitRise 0) eoi acc }) ∧
    (∀ v, (s.shake = .rx .eoiEnd eoi acc ∧ v = .PULLED) ∨ (∃ i, s.shake = .rx (.bitRise i) eoi acc ∧ v = .RELEASED) ∨
        (∃ i, s.shake = .rx (.bitFall i) eoi acc ∧ v = .PULLED) →
      s.level .CLOCK ≠ v →
      (∀ rest, s.script = .timeout :: rest →
        ∃ u, exec (.rxb dev) { s with
            params := { s.params with byteLevel := .T }, shake := .idle, script := .hTalk .fail :: rest } = .next u ∧
          exec (.rxb dev) s = .next { u with params := s.params, lines := s.lines, draws := s.draws }) ∧
      ((∀ rest, s.script ≠ .timeout :: rest) → exec (.rxb dev) s = .next s)) ∧
    (s.shake = .rx .ack eoi acc →
      ∃ u, exec (.rxb dev) { s with
          params := { s.params with byteLevel := .T }, shake := .idle, script := .hTalk (.ok acc eoi) :: s.script } = .next u ∧
        exec (.rxb dev) s = .next { u with
          params := s.params, lines := { s.lines with data := ⟨.OUTPUT, .PULLED⟩ } }))

/-- Derived (R150, R151, R156, R157, R158; log 16, a hold log 8): each step of a level-L send, with ERROR clear: still under way, with nothing
but CLOCK, DATA, the script and the handshake's position changed and the posture of its end kept, or ended exactly as the level-T send ends for
some answer of the host, on success in the talker posture. And, step by step: CLOCK released; the ready wait, with no limit; the EOI hold-off,
which touches no line, or without EOI the delay; CLOCK pulled; the timed waits; the end. The bit cells are LineLevelBitsAssembleTheByte. -/
def Obligations.LineLevelSendRefinesTheRendezvous : Prop :=
  (∀ (s : State) (b : Byte) (last : Bool),
    s.params.byteLevel = .L → s.ctl.transmits = true → s.unitOp = some (.txb b last) → s.error = false →
    s.lines.clock.legal → s.lines.data.legal → lineSendPosture s →
    ∃ (t : State) (rest : List Turn) (x y : LineReg), exec (.txb b last) s = .next t ∧
      (rest = s.script ∨ s.script = .timeout :: rest) ∧ x.legal ∧ y.legal ∧
      ((∃ k, t = { s with lines := { s.lines with clock := x, data := y }, script := rest, shake := k } ∧
          (k = s.shake ∨ ∃ p, k = .tx p) ∧ lineSendPosture t) ∨
       (∃ a u, exec (.txb b last) { s with
            params := { s.params with byteLevel := .T }, shake := .idle, script := .hListen a :: rest } = .next u ∧
          t = { u with params := s.params, lines := { s.lines with clock := x, data := y }, draws := s.draws } ∧
          (a = .ack → x = ⟨.OUTPUT, .PULLED⟩ ∧ y = ⟨.INPUT, .RELEASED⟩) ∧
          (a = .ack ↔ s.shake = .tx .betweenBytes)))) ∧
  (∀ (s : State) (b : Byte) (last : Bool),
    s.params.byteLevel = .L → s.ctl.transmits = true → s.unitOp = some (.txb b last) → s.error = false →
    (s.shake = .idle ∨ s.shake = .tx .relClk →
      exec (.txb b last) s = .next { s with
        lines := { s.lines with clock := ⟨.INPUT, .RELEASED⟩ }, shake := .tx .waitReady }) ∧
    (s.shake = .tx .waitReady →
      (s.level .DATA = .RELEASED →
        exec (.txb b last) s = .next { s with shake := .tx (if last then .eoiPulled else .neDelay) }) ∧
      (s.level .DATA = .PULLED → exec (.txb b last) s = .next s)) ∧
    (s.shake = .tx .eoiPulled → s.level .DATA = .PULLED → exec (.txb b last) s = .next { s with shake := .tx .eoiReleased }) ∧
    (s.shake = .tx .eoiReleased → s.level .DATA = .RELEASED → exec (.txb b last) s = .next { s with shake := .tx .pullClk }) ∧
    (s.shake = .tx .neDelay → exec (.txb b last) s = .next { s with shake := .tx .pullClk }) ∧
    (s.shake = .tx .pullClk →
      exec (.txb b last) s = .next { s with
        lines := { s.lines with clock := ⟨.OUTPUT, .PULLED⟩ }, shake := .tx (.bitData 0) }) ∧
    (s.shake = .tx .frameAck → s.level .DATA = .PULLED → exec (.txb b last) s = .next { s with shake := .tx .betweenBytes }) ∧
    (∀ v, (s.shake = .tx .eoiPulled ∧ v = .PULLED) ∨ (s.shake = .tx .eoiReleased ∧ v = .RELEASED) ∨
        (s.shake = .tx .frameAck ∧ v = .PULLED) →
      s.level .DATA ≠ v →
      (∀ rest, s.script = .timeout :: rest →
        ∃ u, exec (.txb b last) { s with
            params := { s.params with byteLevel := .T }, shake := .idle, script := .hListen .fail :: rest } = .next u ∧
          exec (.txb b last) s = .next { u with params := s.params, lines := s.lines, draws := s.draws }) ∧
      ((∀ rest, s.script ≠ .timeout :: rest) → exec (.txb b last) s = .next s)) ∧
    (s.shake = .tx .betweenBytes →
      ∃ u, exec (.txb b last) { s with
          params := { s.params with byteLevel := .T }, shake := .idle, script := .hListen .ack :: s.script } = .next u ∧
        exec (.txb b last) s = .next { u with params := s.params, lines := s.lines }))

/-- Derived (R151, R152, R153, R155, R156; log 16, the turns log 1): the eight bit cells of a level-L byte, least significant bit first, with
DATA released for 1 and pulled for 0. A receive waits for CLOCK released, takes the level of DATA into bit i, waits for CLOCK pulled and goes on
to the next bit or, after the eighth, to the frame acknowledge; so a host that gives the eight bits in turn hands over exactly its byte. A send
puts bit i on DATA while CLOCK is pulled, releases CLOCK over it, and ends the cell with CLOCK pulled and DATA released, before the next bit or,
after the eighth, the frame acknowledge. -/
def Obligations.LineLevelBitsAssembleTheByte : Prop :=
  (∀ b : Byte,
    (List.finRange 8).foldl
      (fun acc i => sampleBit (if b.getLsbD i.val then .RELEASED else .PULLED) i acc) 0#8 = b) ∧
  (∀ (s : State) (dev : Byte) (i : Fin 8) (eoi : Bool) (acc : Byte), s.params.byteLevel = .L → s.unitOp = some (.rxb dev) →
    (s.shake = .rx (.bitRise i) eoi acc → s.level .CLOCK = .RELEASED →
      exec (.rxb dev) s = .next { s with shake := .rx (.bitSample i) eoi acc }) ∧
    (s.shake = .rx (.bitSample i) eoi acc →
      ∃ b : Byte, exec (.rxb dev) s = .next { s with shake := .rx (.bitFall i) eoi b } ∧
        (∀ k, k ≠ i.val → b.getLsbD k = acc.getLsbD k) ∧
        (acc.getLsbD i.val = false → (b.getLsbD i.val = true ↔ s.level .DATA = .RELEASED))) ∧
    (s.shake = .rx (.bitFall i) eoi acc → s.level .CLOCK = .PULLED →
      (∀ j : Fin 8, j.val = i.val + 1 → exec (.rxb dev) s = .next { s with shake := .rx (.bitRise j) eoi acc }) ∧
      (i.val = 7 → exec (.rxb dev) s = .next { s with shake := .rx .ack eoi acc }))) ∧
  (∀ (s : State) (dev : Byte) (eoi : Bool) (b : Byte),
    s.faults = .empty → s.params.byteLevel = .L → s.unitOp = some (.rxb dev) → s.shake = .rx (.bitRise 0) eoi 0#8 →
    s.lines.clock = ⟨.INPUT, .RELEASED⟩ → s.lines.data = ⟨.INPUT, .RELEASED⟩ →
    s.script = (List.finRange 8).flatMap (fun i =>
      [.hSet .DATA (if b.getLsbD i.val then .RELEASED else .PULLED), .hSet .CLOCK .RELEASED, .unit, .unit, .hSet .CLOCK .PULLED,
        .unit]) →
    run 48 s = .next { s with
      host := { s.host with clock := .PULLED, data := if b.getLsbD 7 then .RELEASED else .PULLED }
      shake := .rx .ack eoi b, script := [] }) ∧
  (∀ (s : State) (b : Byte) (last : Bool) (i : Fin 8) (d : LineReg),
    s.unitAlone → s.params.byteLevel = .L → s.ctl.transmits = true → s.unitOp = some (.txb b last) → s.shake = .tx (.bitData i) →
    d = (if b.getLsbD i.val then ⟨.INPUT, .RELEASED⟩ else ⟨.OUTPUT, .PULLED⟩) →
    exec (.txb b last) s = .next { s with lines := { s.lines with data := d }, shake := .tx (.bitSetup i) } ∧
    run 3 s = .next { s with
      lines := { s.lines with clock := ⟨.INPUT, .RELEASED⟩, data := d }, shake := .tx (.bitHold i) } ∧
    (∀ j : Fin 8, j.val = i.val + 1 →
      run 6 s = .next { s with
        lines := { s.lines with clock := ⟨.OUTPUT, .PULLED⟩, data := ⟨.INPUT, .RELEASED⟩ }, shake := .tx (.bitData j) }) ∧
    (i.val = 7 →
      run 6 s = .next { s with
        lines := { s.lines with clock := ⟨.OUTPUT, .PULLED⟩, data := ⟨.INPUT, .RELEASED⟩ }, shake := .tx .frameAck }))
end

