-- ==== Sys2Proof/Laws/Decode.lean ====
section
/-! SUPPORT. The fields of an operation word and of an ATN byte, read back from how they are put together. -/

namespace Sys2Proof

/-- Each bit of an operation word put together from its fields (R106). -/
theorem getLsbD_make (x a b : Byte) (i : Nat) :
    (OpWord.make x a b).getLsbD i =
      if i < 8 then false
      else if i < 16 then b.getLsbD (i - 8)
      else if i < 24 then a.getLsbD (i - 16)
      else x.getLsbD (i - 24) := by
  have h : (OpWord.make x a b).getLsbD i = (x ++ a ++ b ++ 0#8 : BitVec (8 + 8 + 8 + 8)).getLsbD i := rfl
  rw [h]
  simp only [BitVec.getLsbD_append]
  by_cases h0 : i < 8
  · simp [h0]
  by_cases h1 : i < 16
  · have : i - 8 < 8 := by omega
    simp [h0, h1, this]
  by_cases h2 : i < 24
  · have n1 : ¬ i - 8 < 8 := by omega
    have n2 : i - 8 - 8 < 8 := by omega
    have e : i - 8 - 8 = i - 16 := by omega
    have n3 : i - 16 < 8 := by omega
    simp [h0, h1, h2, n1, e, n3]
  · have n1 : ¬ i - 8 < 8 := by omega
    have n2 : ¬ i - 8 - 8 < 8 := by omega
    have e : i - 8 - 8 - 8 = i - 24 := by omega
    simp [h0, h1, h2, n1, n2, e]

@[simp] theorem reserved_make (x a b : Byte) : OpWord.reserved (OpWord.make x a b) = 0#8 := by
  apply BitVec.eq_of_getLsbD_eq
  intro i hi
  simp [OpWord.reserved, getLsbD_make, hi]

@[simp] theorem fieldB_make (x a b : Byte) : OpWord.fieldB (OpWord.make x a b) = b := by
  apply BitVec.eq_of_getLsbD_eq
  intro i hi
  have h1 : 8 + i < 16 := by omega
  simp [OpWord.fieldB, getLsbD_make, hi, h1]

@[simp] theorem fieldA_make (x a b : Byte) : OpWord.fieldA (OpWord.make x a b) = a := by
  apply BitVec.eq_of_getLsbD_eq
  intro i hi
  have h1 : ¬ 16 + i < 8 := by omega
  have h2 : 16 + i < 24 := by omega
  simp [OpWord.fieldA, getLsbD_make, hi, h1, h2]

@[simp] theorem sel_make (x a b : Byte) : OpWord.sel (OpWord.make x a b) = x := by
  apply BitVec.eq_of_getLsbD_eq
  intro i hi
  have h1 : ¬ 24 + i < 8 := by omega
  have h2 : ¬ 24 + i < 16 := by omega
  simp [OpWord.sel, getLsbD_make, hi, h1, h2]

/-- A word whose reserved bits are zero is put together from its three other fields (R106). -/
theorem make_fields {w : OpWord} (h : OpWord.reserved w = 0#8) :
    OpWord.make (OpWord.sel w) (OpWord.fieldA w) (OpWord.fieldB w) = w := by
  apply BitVec.eq_of_getLsbD_eq
  intro i hi
  rw [getLsbD_make]
  by_cases h0 : i < 8
  · have := congrArg (fun v : BitVec 8 => v.getLsbD i) h
    simp only [OpWord.reserved, BitVec.getLsbD_extractLsb'] at this
    simp [h0] at this ⊢
    exact this.symm ▸ rfl
  by_cases h1 : i < 16
  · have n : i - 8 < 8 := by omega
    have e : 8 + (i - 8) = i := by omega
    simp [OpWord.fieldB, h0, h1, n, e]
  by_cases h2 : i < 24
  · have n : i - 16 < 8 := by omega
    have e : 16 + (i - 16) = i := by omega
    simp [OpWord.fieldA, h0, h1, h2, n, e]
  · have n : i - 24 < 8 := by omega
    have e : 24 + (i - 24) = i := by omega
    simp [OpWord.sel, h0, h1, h2, n, e]

/-! ### Codes -/

@[simp] theorem Line.ofCode_code (l : Line) : Line.ofCode l.code = some l := by cases l <;> rfl

@[simp] theorem PinMode.ofCode_code (m : PinMode) : PinMode.ofCode m.code = some m := by cases m <;> rfl

@[simp] theorem boolOfCode_boolCode (v : Bool) : boolOfCode (boolCode v) = some v := by cases v <;> rfl

/-! ### An ATN byte from its nibbles (R90, R94) -/

@[simp] theorem argNibble_append (c x : BitVec 4) : argNibble (c ++ x) = x := by
  apply BitVec.eq_of_getLsbD_eq
  intro i hi
  have h : (argNibble (c ++ x)).getLsbD i = (decide (i < 4) && (c ++ x : BitVec (4 + 4)).getLsbD i) := by
    simp [argNibble, BitVec.getLsbD_extractLsb']
  rw [h, BitVec.getLsbD_append]
  simp [hi]

@[simp] theorem cmdNibble_append (c x : BitVec 4) : cmdNibble (c ++ x) = c := by
  apply BitVec.eq_of_getLsbD_eq
  intro i hi
  have h : (cmdNibble (c ++ x)).getLsbD i = (decide (i < 4) && (c ++ x : BitVec (4 + 4)).getLsbD (4 + i)) := by
    simp [cmdNibble, BitVec.getLsbD_extractLsb']
  rw [h, BitVec.getLsbD_append]
  have n : ¬ 4 + i < 4 := by omega
  simp [hi]

end Sys2Proof
end

