-- ==== Sys2Proof/Laws/State.lean ====
section
/-! SUPPORT. What each named update of State leaves in each field: one lemma per field per update, true by rfl. -/

namespace Sys2Proof.Machine

variable (s : State)

/-! ### setError -/

@[simp] theorem setError_lines : (s.setError).lines = s.lines := rfl
@[simp] theorem setError_host : (s.setError).host = s.host := rfl
@[simp] theorem setError_flags : (s.setError).flags = flagsSetError s.flags := rfl
@[simp] theorem setError_enabled : (s.setError).enabled = s.enabled := rfl
@[simp] theorem setError_data : (s.setError).data = s.data := rfl
@[simp] theorem setError_ctl : (s.setError).ctl = s.ctl := rfl
@[simp] theorem setError_prim : (s.setError).prim = s.prim := rfl
@[simp] theorem setError_r : (s.setError).r = s.r := rfl
@[simp] theorem setError_phase : (s.setError).phase = s.phase := rfl
@[simp] theorem setError_faults : (s.setError).faults = s.faults := rfl
@[simp] theorem setError_busy : (s.setError).busy = s.busy := rfl
@[simp] theorem setError_params : (s.setError).params = s.params := rfl
@[simp] theorem setError_prog : (s.setError).prog = s.prog := rfl
@[simp] theorem setError_pc : (s.setError).pc = s.pc := rfl
@[simp] theorem setError_script : (s.setError).script = s.script := rfl
@[simp] theorem setError_shake : (s.setError).shake = s.shake := rfl
@[simp] theorem setError_draws : (s.setError).draws = s.draws := rfl

/-! ### writeEoi -/

@[simp] theorem writeEoi_lines (v : Bool) : (s.writeEoi v).lines = s.lines := rfl
@[simp] theorem writeEoi_host (v : Bool) : (s.writeEoi v).host = s.host := rfl
@[simp] theorem writeEoi_flags (v : Bool) : (s.writeEoi v).flags = flagsWriteEoi v s.flags := rfl
@[simp] theorem writeEoi_enabled (v : Bool) : (s.writeEoi v).enabled = s.enabled := rfl
@[simp] theorem writeEoi_data (v : Bool) : (s.writeEoi v).data = s.data := rfl
@[simp] theorem writeEoi_ctl (v : Bool) : (s.writeEoi v).ctl = s.ctl := rfl
@[simp] theorem writeEoi_prim (v : Bool) : (s.writeEoi v).prim = s.prim := rfl
@[simp] theorem writeEoi_r (v : Bool) : (s.writeEoi v).r = s.r := rfl
@[simp] theorem writeEoi_phase (v : Bool) : (s.writeEoi v).phase = s.phase := rfl
@[simp] theorem writeEoi_faults (v : Bool) : (s.writeEoi v).faults = s.faults := rfl
@[simp] theorem writeEoi_busy (v : Bool) : (s.writeEoi v).busy = s.busy := rfl
@[simp] theorem writeEoi_params (v : Bool) : (s.writeEoi v).params = s.params := rfl
@[simp] theorem writeEoi_prog (v : Bool) : (s.writeEoi v).prog = s.prog := rfl
@[simp] theorem writeEoi_pc (v : Bool) : (s.writeEoi v).pc = s.pc := rfl
@[simp] theorem writeEoi_script (v : Bool) : (s.writeEoi v).script = s.script := rfl
@[simp] theorem writeEoi_shake (v : Bool) : (s.writeEoi v).shake = s.shake := rfl
@[simp] theorem writeEoi_draws (v : Bool) : (s.writeEoi v).draws = s.draws := rfl

/-! ### clearFlags -/

@[simp] theorem clearFlags_lines : (s.clearFlags).lines = s.lines := rfl
@[simp] theorem clearFlags_host : (s.clearFlags).host = s.host := rfl
@[simp] theorem clearFlags_flags : (s.clearFlags).flags = 0#8 := rfl
@[simp] theorem clearFlags_enabled : (s.clearFlags).enabled = s.enabled := rfl
@[simp] theorem clearFlags_data : (s.clearFlags).data = s.data := rfl
@[simp] theorem clearFlags_ctl : (s.clearFlags).ctl = s.ctl := rfl
@[simp] theorem clearFlags_prim : (s.clearFlags).prim = s.prim := rfl
@[simp] theorem clearFlags_r : (s.clearFlags).r = s.r := rfl
@[simp] theorem clearFlags_phase : (s.clearFlags).phase = s.phase := rfl
@[simp] theorem clearFlags_faults : (s.clearFlags).faults = s.faults := rfl
@[simp] theorem clearFlags_busy : (s.clearFlags).busy = s.busy := rfl
@[simp] theorem clearFlags_params : (s.clearFlags).params = s.params := rfl
@[simp] theorem clearFlags_prog : (s.clearFlags).prog = s.prog := rfl
@[simp] theorem clearFlags_pc : (s.clearFlags).pc = s.pc := rfl
@[simp] theorem clearFlags_script : (s.clearFlags).script = s.script := rfl
@[simp] theorem clearFlags_shake : (s.clearFlags).shake = s.shake := rfl
@[simp] theorem clearFlags_draws : (s.clearFlags).draws = s.draws := rfl

/-! ### addFault -/

@[simp] theorem addFault_lines (x : FaultReason) : (s.addFault x).lines = s.lines := rfl
@[simp] theorem addFault_host (x : FaultReason) : (s.addFault x).host = s.host := rfl
@[simp] theorem addFault_flags (x : FaultReason) : (s.addFault x).flags = s.flags := rfl
@[simp] theorem addFault_enabled (x : FaultReason) : (s.addFault x).enabled = s.enabled := rfl
@[simp] theorem addFault_data (x : FaultReason) : (s.addFault x).data = s.data := rfl
@[simp] theorem addFault_ctl (x : FaultReason) : (s.addFault x).ctl = s.ctl := rfl
@[simp] theorem addFault_prim (x : FaultReason) : (s.addFault x).prim = s.prim := rfl
@[simp] theorem addFault_r (x : FaultReason) : (s.addFault x).r = s.r := rfl
@[simp] theorem addFault_phase (x : FaultReason) : (s.addFault x).phase = s.phase := rfl
@[simp] theorem addFault_faults (x : FaultReason) : (s.addFault x).faults = s.faults.add x := rfl
@[simp] theorem addFault_busy (x : FaultReason) : (s.addFault x).busy = s.busy := rfl
@[simp] theorem addFault_params (x : FaultReason) : (s.addFault x).params = s.params := rfl
@[simp] theorem addFault_prog (x : FaultReason) : (s.addFault x).prog = s.prog := rfl
@[simp] theorem addFault_pc (x : FaultReason) : (s.addFault x).pc = s.pc := rfl
@[simp] theorem addFault_script (x : FaultReason) : (s.addFault x).script = s.script := rfl
@[simp] theorem addFault_shake (x : FaultReason) : (s.addFault x).shake = s.shake := rfl
@[simp] theorem addFault_draws (x : FaultReason) : (s.addFault x).draws = s.draws := rfl

/-! ### pull -/

@[simp] theorem pull_lines (l : DLine) : (s.pull l).lines = s.lines.put l .pulled := rfl
@[simp] theorem pull_host (l : DLine) : (s.pull l).host = s.host := rfl
@[simp] theorem pull_flags (l : DLine) : (s.pull l).flags = s.flags := rfl
@[simp] theorem pull_enabled (l : DLine) : (s.pull l).enabled = s.enabled := rfl
@[simp] theorem pull_data (l : DLine) : (s.pull l).data = s.data := rfl
@[simp] theorem pull_ctl (l : DLine) : (s.pull l).ctl = s.ctl := rfl
@[simp] theorem pull_prim (l : DLine) : (s.pull l).prim = s.prim := rfl
@[simp] theorem pull_r (l : DLine) : (s.pull l).r = s.r := rfl
@[simp] theorem pull_phase (l : DLine) : (s.pull l).phase = s.phase := rfl
@[simp] theorem pull_faults (l : DLine) : (s.pull l).faults = s.faults := rfl
@[simp] theorem pull_busy (l : DLine) : (s.pull l).busy = s.busy := rfl
@[simp] theorem pull_params (l : DLine) : (s.pull l).params = s.params := rfl
@[simp] theorem pull_prog (l : DLine) : (s.pull l).prog = s.prog := rfl
@[simp] theorem pull_pc (l : DLine) : (s.pull l).pc = s.pc := rfl
@[simp] theorem pull_script (l : DLine) : (s.pull l).script = s.script := rfl
@[simp] theorem pull_shake (l : DLine) : (s.pull l).shake = s.shake := rfl
@[simp] theorem pull_draws (l : DLine) : (s.pull l).draws = s.draws := rfl

/-! ### release -/

@[simp] theorem release_lines (l : DLine) : (s.release l).lines = s.lines.put l .idle := rfl
@[simp] theorem release_host (l : DLine) : (s.release l).host = s.host := rfl
@[simp] theorem release_flags (l : DLine) : (s.release l).flags = s.flags := rfl
@[simp] theorem release_enabled (l : DLine) : (s.release l).enabled = s.enabled := rfl
@[simp] theorem release_data (l : DLine) : (s.release l).data = s.data := rfl
@[simp] theorem release_ctl (l : DLine) : (s.release l).ctl = s.ctl := rfl
@[simp] theorem release_prim (l : DLine) : (s.release l).prim = s.prim := rfl
@[simp] theorem release_r (l : DLine) : (s.release l).r = s.r := rfl
@[simp] theorem release_phase (l : DLine) : (s.release l).phase = s.phase := rfl
@[simp] theorem release_faults (l : DLine) : (s.release l).faults = s.faults := rfl
@[simp] theorem release_busy (l : DLine) : (s.release l).busy = s.busy := rfl
@[simp] theorem release_params (l : DLine) : (s.release l).params = s.params := rfl
@[simp] theorem release_prog (l : DLine) : (s.release l).prog = s.prog := rfl
@[simp] theorem release_pc (l : DLine) : (s.release l).pc = s.pc := rfl
@[simp] theorem release_script (l : DLine) : (s.release l).script = s.script := rfl
@[simp] theorem release_shake (l : DLine) : (s.release l).shake = s.shake := rfl
@[simp] theorem release_draws (l : DLine) : (s.release l).draws = s.draws := rfl

/-! ### setPinMode -/

@[simp] theorem setPinMode_lines (l : DLine) (m : PinMode) : (s.setPinMode l m).lines = s.lines.put l { s.lines.get l with mode := m } := rfl
@[simp] theorem setPinMode_host (l : DLine) (m : PinMode) : (s.setPinMode l m).host = s.host := rfl
@[simp] theorem setPinMode_flags (l : DLine) (m : PinMode) : (s.setPinMode l m).flags = s.flags := rfl
@[simp] theorem setPinMode_enabled (l : DLine) (m : PinMode) : (s.setPinMode l m).enabled = s.enabled := rfl
@[simp] theorem setPinMode_data (l : DLine) (m : PinMode) : (s.setPinMode l m).data = s.data := rfl
@[simp] theorem setPinMode_ctl (l : DLine) (m : PinMode) : (s.setPinMode l m).ctl = s.ctl := rfl
@[simp] theorem setPinMode_prim (l : DLine) (m : PinMode) : (s.setPinMode l m).prim = s.prim := rfl
@[simp] theorem setPinMode_r (l : DLine) (m : PinMode) : (s.setPinMode l m).r = s.r := rfl
@[simp] theorem setPinMode_phase (l : DLine) (m : PinMode) : (s.setPinMode l m).phase = s.phase := rfl
@[simp] theorem setPinMode_faults (l : DLine) (m : PinMode) : (s.setPinMode l m).faults = s.faults := rfl
@[simp] theorem setPinMode_busy (l : DLine) (m : PinMode) : (s.setPinMode l m).busy = s.busy := rfl
@[simp] theorem setPinMode_params (l : DLine) (m : PinMode) : (s.setPinMode l m).params = s.params := rfl
@[simp] theorem setPinMode_prog (l : DLine) (m : PinMode) : (s.setPinMode l m).prog = s.prog := rfl
@[simp] theorem setPinMode_pc (l : DLine) (m : PinMode) : (s.setPinMode l m).pc = s.pc := rfl
@[simp] theorem setPinMode_script (l : DLine) (m : PinMode) : (s.setPinMode l m).script = s.script := rfl
@[simp] theorem setPinMode_shake (l : DLine) (m : PinMode) : (s.setPinMode l m).shake = s.shake := rfl
@[simp] theorem setPinMode_draws (l : DLine) (m : PinMode) : (s.setPinMode l m).draws = s.draws := rfl

/-! ### listenerPosture -/

@[simp] theorem listenerPosture_lines : (s.listenerPosture).lines = { s.lines with clock := .idle, data := .pulled } := rfl
@[simp] theorem listenerPosture_host : (s.listenerPosture).host = s.host := rfl
@[simp] theorem listenerPosture_flags : (s.listenerPosture).flags = s.flags := rfl
@[simp] theorem listenerPosture_enabled : (s.listenerPosture).enabled = s.enabled := rfl
@[simp] theorem listenerPosture_data : (s.listenerPosture).data = s.data := rfl
@[simp] theorem listenerPosture_ctl : (s.listenerPosture).ctl = s.ctl := rfl
@[simp] theorem listenerPosture_prim : (s.listenerPosture).prim = s.prim := rfl
@[simp] theorem listenerPosture_r : (s.listenerPosture).r = s.r := rfl
@[simp] theorem listenerPosture_phase : (s.listenerPosture).phase = s.phase := rfl
@[simp] theorem listenerPosture_faults : (s.listenerPosture).faults = s.faults := rfl
@[simp] theorem listenerPosture_busy : (s.listenerPosture).busy = s.busy := rfl
@[simp] theorem listenerPosture_params : (s.listenerPosture).params = s.params := rfl
@[simp] theorem listenerPosture_prog : (s.listenerPosture).prog = s.prog := rfl
@[simp] theorem listenerPosture_pc : (s.listenerPosture).pc = s.pc := rfl
@[simp] theorem listenerPosture_script : (s.listenerPosture).script = s.script := rfl
@[simp] theorem listenerPosture_shake : (s.listenerPosture).shake = s.shake := rfl
@[simp] theorem listenerPosture_draws : (s.listenerPosture).draws = s.draws := rfl

/-! ### talkerPosture -/

@[simp] theorem talkerPosture_lines : (s.talkerPosture).lines = { s.lines with clock := .pulled, data := .idle } := rfl
@[simp] theorem talkerPosture_host : (s.talkerPosture).host = s.host := rfl
@[simp] theorem talkerPosture_flags : (s.talkerPosture).flags = s.flags := rfl
@[simp] theorem talkerPosture_enabled : (s.talkerPosture).enabled = s.enabled := rfl
@[simp] theorem talkerPosture_data : (s.talkerPosture).data = s.data := rfl
@[simp] theorem talkerPosture_ctl : (s.talkerPosture).ctl = s.ctl := rfl
@[simp] theorem talkerPosture_prim : (s.talkerPosture).prim = s.prim := rfl
@[simp] theorem talkerPosture_r : (s.talkerPosture).r = s.r := rfl
@[simp] theorem talkerPosture_phase : (s.talkerPosture).phase = s.phase := rfl
@[simp] theorem talkerPosture_faults : (s.talkerPosture).faults = s.faults := rfl
@[simp] theorem talkerPosture_busy : (s.talkerPosture).busy = s.busy := rfl
@[simp] theorem talkerPosture_params : (s.talkerPosture).params = s.params := rfl
@[simp] theorem talkerPosture_prog : (s.talkerPosture).prog = s.prog := rfl
@[simp] theorem talkerPosture_pc : (s.talkerPosture).pc = s.pc := rfl
@[simp] theorem talkerPosture_script : (s.talkerPosture).script = s.script := rfl
@[simp] theorem talkerPosture_shake : (s.talkerPosture).shake = s.shake := rfl
@[simp] theorem talkerPosture_draws : (s.talkerPosture).draws = s.draws := rfl

/-! ### hostSet -/

@[simp] theorem hostSet_lines (l : Line) (v : Level) : (s.hostSet l v).lines = s.lines := rfl
@[simp] theorem hostSet_host (l : Line) (v : Level) : (s.hostSet l v).host = s.host.put l v := rfl
@[simp] theorem hostSet_flags (l : Line) (v : Level) : (s.hostSet l v).flags = s.flags := rfl
@[simp] theorem hostSet_enabled (l : Line) (v : Level) : (s.hostSet l v).enabled = s.enabled := rfl
@[simp] theorem hostSet_data (l : Line) (v : Level) : (s.hostSet l v).data = s.data := rfl
@[simp] theorem hostSet_ctl (l : Line) (v : Level) : (s.hostSet l v).ctl = s.ctl := rfl
@[simp] theorem hostSet_prim (l : Line) (v : Level) : (s.hostSet l v).prim = s.prim := rfl
@[simp] theorem hostSet_r (l : Line) (v : Level) : (s.hostSet l v).r = s.r := rfl
@[simp] theorem hostSet_phase (l : Line) (v : Level) : (s.hostSet l v).phase = s.phase := rfl
@[simp] theorem hostSet_faults (l : Line) (v : Level) : (s.hostSet l v).faults = s.faults := rfl
@[simp] theorem hostSet_busy (l : Line) (v : Level) : (s.hostSet l v).busy = s.busy := rfl
@[simp] theorem hostSet_params (l : Line) (v : Level) : (s.hostSet l v).params = s.params := rfl
@[simp] theorem hostSet_prog (l : Line) (v : Level) : (s.hostSet l v).prog = s.prog := rfl
@[simp] theorem hostSet_pc (l : Line) (v : Level) : (s.hostSet l v).pc = s.pc := rfl
@[simp] theorem hostSet_script (l : Line) (v : Level) : (s.hostSet l v).script = s.script := rfl
@[simp] theorem hostSet_shake (l : Line) (v : Level) : (s.hostSet l v).shake = s.shake := rfl
@[simp] theorem hostSet_draws (l : Line) (v : Level) : (s.hostSet l v).draws = s.draws := rfl

/-! ### finish -/

@[simp] theorem finish_lines : (s.finish).lines = s.lines := rfl
@[simp] theorem finish_host : (s.finish).host = s.host := rfl
@[simp] theorem finish_flags : (s.finish).flags = s.flags := rfl
@[simp] theorem finish_enabled : (s.finish).enabled = s.enabled := rfl
@[simp] theorem finish_data : (s.finish).data = s.data := rfl
@[simp] theorem finish_ctl : (s.finish).ctl = .READY := rfl
@[simp] theorem finish_prim : (s.finish).prim = s.prim := rfl
@[simp] theorem finish_r : (s.finish).r = s.r := rfl
@[simp] theorem finish_phase : (s.finish).phase = s.phase := rfl
@[simp] theorem finish_faults : (s.finish).faults = s.faults := rfl
@[simp] theorem finish_busy : (s.finish).busy = false := rfl
@[simp] theorem finish_params : (s.finish).params = s.params := rfl
@[simp] theorem finish_prog : (s.finish).prog = s.prog := rfl
@[simp] theorem finish_pc : (s.finish).pc = s.pc + 1 := rfl
@[simp] theorem finish_script : (s.finish).script = s.script := rfl
@[simp] theorem finish_shake : (s.finish).shake = s.shake := rfl
@[simp] theorem finish_draws : (s.finish).draws = s.draws := rfl

/-! ### ret -/

@[simp] theorem ret_lines (v : Result) : (s.ret v).lines = s.lines := rfl
@[simp] theorem ret_host (v : Result) : (s.ret v).host = s.host := rfl
@[simp] theorem ret_flags (v : Result) : (s.ret v).flags = s.flags := rfl
@[simp] theorem ret_enabled (v : Result) : (s.ret v).enabled = s.enabled := rfl
@[simp] theorem ret_data (v : Result) : (s.ret v).data = s.data := rfl
@[simp] theorem ret_ctl (v : Result) : (s.ret v).ctl = .READY := rfl
@[simp] theorem ret_prim (v : Result) : (s.ret v).prim = s.prim := rfl
@[simp] theorem ret_r (v : Result) : (s.ret v).r = some v := rfl
@[simp] theorem ret_phase (v : Result) : (s.ret v).phase = s.phase := rfl
@[simp] theorem ret_faults (v : Result) : (s.ret v).faults = s.faults := rfl
@[simp] theorem ret_busy (v : Result) : (s.ret v).busy = false := rfl
@[simp] theorem ret_params (v : Result) : (s.ret v).params = s.params := rfl
@[simp] theorem ret_prog (v : Result) : (s.ret v).prog = s.prog := rfl
@[simp] theorem ret_pc (v : Result) : (s.ret v).pc = s.pc + 1 := rfl
@[simp] theorem ret_script (v : Result) : (s.ret v).script = s.script := rfl
@[simp] theorem ret_shake (v : Result) : (s.ret v).shake = s.shake := rfl
@[simp] theorem ret_draws (v : Result) : (s.ret v).draws = s.draws := rfl

/-! ### finishInternal -/

@[simp] theorem finishInternal_lines : (s.finishInternal).lines = s.lines := rfl
@[simp] theorem finishInternal_host : (s.finishInternal).host = s.host := rfl
@[simp] theorem finishInternal_flags : (s.finishInternal).flags = s.flags := rfl
@[simp] theorem finishInternal_enabled : (s.finishInternal).enabled = s.enabled := rfl
@[simp] theorem finishInternal_data : (s.finishInternal).data = s.data := rfl
@[simp] theorem finishInternal_ctl : (s.finishInternal).ctl = .READY := rfl
@[simp] theorem finishInternal_prim : (s.finishInternal).prim = s.prim := rfl
@[simp] theorem finishInternal_r : (s.finishInternal).r = s.r := rfl
@[simp] theorem finishInternal_phase : (s.finishInternal).phase = s.phase := rfl
@[simp] theorem finishInternal_faults : (s.finishInternal).faults = s.faults := rfl
@[simp] theorem finishInternal_busy : (s.finishInternal).busy = false := rfl
@[simp] theorem finishInternal_params : (s.finishInternal).params = s.params := rfl
@[simp] theorem finishInternal_prog : (s.finishInternal).prog = s.prog := rfl
@[simp] theorem finishInternal_pc : (s.finishInternal).pc = s.pc := rfl
@[simp] theorem finishInternal_script : (s.finishInternal).script = s.script := rfl
@[simp] theorem finishInternal_shake : (s.finishInternal).shake = s.shake := rfl
@[simp] theorem finishInternal_draws : (s.finishInternal).draws = s.draws := rfl

/-! ### busIdle -/

@[simp] theorem busIdle_lines : (s.busIdle).lines = s.lines := rfl
@[simp] theorem busIdle_host : (s.busIdle).host = s.host := rfl
@[simp] theorem busIdle_flags : (s.busIdle).flags = s.flags := rfl
@[simp] theorem busIdle_enabled : (s.busIdle).enabled = s.enabled := rfl
@[simp] theorem busIdle_data : (s.busIdle).data = { s.data with valid := false } := rfl
@[simp] theorem busIdle_ctl : (s.busIdle).ctl = s.ctl := rfl
@[simp] theorem busIdle_prim : (s.busIdle).prim = s.prim := rfl
@[simp] theorem busIdle_r : (s.busIdle).r = s.r := rfl
@[simp] theorem busIdle_phase : (s.busIdle).phase = .NONE := rfl
@[simp] theorem busIdle_faults : (s.busIdle).faults = s.faults := rfl
@[simp] theorem busIdle_busy : (s.busIdle).busy = s.busy := rfl
@[simp] theorem busIdle_params : (s.busIdle).params = s.params := rfl
@[simp] theorem busIdle_prog : (s.busIdle).prog = s.prog := rfl
@[simp] theorem busIdle_pc : (s.busIdle).pc = s.pc := rfl
@[simp] theorem busIdle_script : (s.busIdle).script = s.script := rfl
@[simp] theorem busIdle_shake : (s.busIdle).shake = s.shake := rfl
@[simp] theorem busIdle_draws : (s.busIdle).draws = s.draws := rfl

/-! ### dataExit -/

@[simp] theorem dataExit_lines (S : BusState) : (s.dataExit S).lines = s.lines := rfl
@[simp] theorem dataExit_host (S : BusState) : (s.dataExit S).host = s.host := rfl
@[simp] theorem dataExit_flags (S : BusState) : (s.dataExit S).flags = s.flags := rfl
@[simp] theorem dataExit_enabled (S : BusState) : (s.dataExit S).enabled = s.enabled := rfl
@[simp] theorem dataExit_data (S : BusState) : (s.dataExit S).data = { s.data with valid := true } := rfl
@[simp] theorem dataExit_ctl (S : BusState) : (s.dataExit S).ctl = .READY := rfl
@[simp] theorem dataExit_prim (S : BusState) : (s.dataExit S).prim = s.prim := rfl
@[simp] theorem dataExit_r (S : BusState) : (s.dataExit S).r = some (.bus S) := rfl
@[simp] theorem dataExit_phase (S : BusState) : (s.dataExit S).phase = busStatePhase S := rfl
@[simp] theorem dataExit_faults (S : BusState) : (s.dataExit S).faults = s.faults := rfl
@[simp] theorem dataExit_busy (S : BusState) : (s.dataExit S).busy = false := rfl
@[simp] theorem dataExit_params (S : BusState) : (s.dataExit S).params = s.params := rfl
@[simp] theorem dataExit_prog (S : BusState) : (s.dataExit S).prog = s.prog := rfl
@[simp] theorem dataExit_pc (S : BusState) : (s.dataExit S).pc = s.pc + 1 := rfl
@[simp] theorem dataExit_script (S : BusState) : (s.dataExit S).script = s.script := rfl
@[simp] theorem dataExit_shake (S : BusState) : (s.dataExit S).shake = s.shake := rfl
@[simp] theorem dataExit_draws (S : BusState) : (s.dataExit S).draws = s.draws := rfl

/-! ### idleExit -/

@[simp] theorem idleExit_lines (S : BusState) : (s.idleExit S).lines = s.lines := rfl
@[simp] theorem idleExit_host (S : BusState) : (s.idleExit S).host = s.host := rfl
@[simp] theorem idleExit_flags (S : BusState) : (s.idleExit S).flags = s.flags := rfl
@[simp] theorem idleExit_enabled (S : BusState) : (s.idleExit S).enabled = s.enabled := rfl
@[simp] theorem idleExit_data (S : BusState) : (s.idleExit S).data = { s.data with valid := false } := rfl
@[simp] theorem idleExit_ctl (S : BusState) : (s.idleExit S).ctl = .READY := rfl
@[simp] theorem idleExit_prim (S : BusState) : (s.idleExit S).prim = s.prim := rfl
@[simp] theorem idleExit_r (S : BusState) : (s.idleExit S).r = some (.bus S) := rfl
@[simp] theorem idleExit_phase (S : BusState) : (s.idleExit S).phase = .NONE := rfl
@[simp] theorem idleExit_faults (S : BusState) : (s.idleExit S).faults = s.faults := rfl
@[simp] theorem idleExit_busy (S : BusState) : (s.idleExit S).busy = false := rfl
@[simp] theorem idleExit_params (S : BusState) : (s.idleExit S).params = s.params := rfl
@[simp] theorem idleExit_prog (S : BusState) : (s.idleExit S).prog = s.prog := rfl
@[simp] theorem idleExit_pc (S : BusState) : (s.idleExit S).pc = s.pc + 1 := rfl
@[simp] theorem idleExit_script (S : BusState) : (s.idleExit S).script = s.script := rfl
@[simp] theorem idleExit_shake (S : BusState) : (s.idleExit S).shake = s.shake := rfl
@[simp] theorem idleExit_draws (S : BusState) : (s.idleExit S).draws = s.draws := rfl

/-! ### The failure draw: only CLOCK, DATA and the counter -/

@[simp] theorem drawLine_host (l : DLine) : (s.drawLine l).host = s.host := rfl
@[simp] theorem drawLine_flags (l : DLine) : (s.drawLine l).flags = s.flags := rfl
@[simp] theorem drawLine_enabled (l : DLine) : (s.drawLine l).enabled = s.enabled := rfl
@[simp] theorem drawLine_data (l : DLine) : (s.drawLine l).data = s.data := rfl
@[simp] theorem drawLine_ctl (l : DLine) : (s.drawLine l).ctl = s.ctl := rfl
@[simp] theorem drawLine_prim (l : DLine) : (s.drawLine l).prim = s.prim := rfl
@[simp] theorem drawLine_r (l : DLine) : (s.drawLine l).r = s.r := rfl
@[simp] theorem drawLine_phase (l : DLine) : (s.drawLine l).phase = s.phase := rfl
@[simp] theorem drawLine_faults (l : DLine) : (s.drawLine l).faults = s.faults := rfl
@[simp] theorem drawLine_busy (l : DLine) : (s.drawLine l).busy = s.busy := rfl
@[simp] theorem drawLine_params (l : DLine) : (s.drawLine l).params = s.params := rfl
@[simp] theorem drawLine_prog (l : DLine) : (s.drawLine l).prog = s.prog := rfl
@[simp] theorem drawLine_pc (l : DLine) : (s.drawLine l).pc = s.pc := rfl
@[simp] theorem drawLine_script (l : DLine) : (s.drawLine l).script = s.script := rfl
@[simp] theorem drawLine_shake (l : DLine) : (s.drawLine l).shake = s.shake := rfl
@[simp] theorem drawPosture_host : s.drawPosture.host = s.host := rfl
@[simp] theorem drawPosture_flags : s.drawPosture.flags = s.flags := rfl
@[simp] theorem drawPosture_enabled : s.drawPosture.enabled = s.enabled := rfl
@[simp] theorem drawPosture_data : s.drawPosture.data = s.data := rfl
@[simp] theorem drawPosture_ctl : s.drawPosture.ctl = s.ctl := rfl
@[simp] theorem drawPosture_prim : s.drawPosture.prim = s.prim := rfl
@[simp] theorem drawPosture_r : s.drawPosture.r = s.r := rfl
@[simp] theorem drawPosture_phase : s.drawPosture.phase = s.phase := rfl
@[simp] theorem drawPosture_faults : s.drawPosture.faults = s.faults := rfl
@[simp] theorem drawPosture_busy : s.drawPosture.busy = s.busy := rfl
@[simp] theorem drawPosture_params : s.drawPosture.params = s.params := rfl
@[simp] theorem drawPosture_prog : s.drawPosture.prog = s.prog := rfl
@[simp] theorem drawPosture_pc : s.drawPosture.pc = s.pc := rfl
@[simp] theorem drawPosture_script : s.drawPosture.script = s.script := rfl
@[simp] theorem drawPosture_shake : s.drawPosture.shake = s.shake := rfl
@[simp] theorem drawLine_draws (l : DLine) : (s.drawLine l).draws = s.draws + 1 := rfl
@[simp] theorem drawPosture_draws : s.drawPosture.draws = s.draws + 2 := rfl

/-- A failed byte transaction draws CLOCK and DATA and leaves every other field (R132, R136). -/
theorem drawPosture_eq :
    s.drawPosture = { s with
      lines := { s.lines with clock := drawReg s.draws, data := drawReg (s.draws + 1) }, draws := s.draws + 2 } := rfl

end Sys2Proof.Machine
end

