-- ==== Sys2Proof/Laws/Ops.lean ====
section
/-! SUPPORT. One lemma per shared operation: everything it can do. -/

namespace Sys2Proof.Machine

/-! ### Flags -/

theorem flagsSetError_bit0 (f : BitVec 8) : (flagsSetError f).getLsbD 0 = true := by
  simp [flagsSetError]

theorem flagsSetError_bit1 (f : BitVec 8) : (flagsSetError f).getLsbD 1 = f.getLsbD 1 := by
  simp [flagsSetError]

theorem flagsWriteEoi_bit1 (v : Bool) (f : BitVec 8) : (flagsWriteEoi v f).getLsbD 1 = v := by
  cases v <;> simp [flagsWriteEoi]

theorem flagsWriteEoi_bit0 (v : Bool) (f : BitVec 8) : (flagsWriteEoi v f).getLsbD 0 = f.getLsbD 0 := by
  cases v <;> simp [flagsWriteEoi]

@[simp] theorem setError_error (s : State) : s.setError.error = true := flagsSetError_bit0 _

@[simp] theorem setError_eoi (s : State) : s.setError.eoi = s.eoi := flagsSetError_bit1 _

@[simp] theorem writeEoi_eoi (v : Bool) (s : State) : (s.writeEoi v).eoi = v := flagsWriteEoi_bit1 v _

@[simp] theorem writeEoi_error (v : Bool) (s : State) : (s.writeEoi v).error = s.error := flagsWriteEoi_bit0 v _

/-- Writing ERROR or EOI leaves JIFFY_ACTIVE and the reserved bits at 0 (R28, R30, R33). -/
theorem flagsSetError_reserved {f : BitVec 8} (h : f &&& 0xFC#8 = 0#8) : flagsSetError f &&& 0xFC#8 = 0#8 := by
  revert f; unfold flagsSetError; decide

theorem flagsWriteEoi_reserved {f : BitVec 8} (v : Bool) (h : f &&& 0xFC#8 = 0#8) :
    flagsWriteEoi v f &&& 0xFC#8 = 0#8 := by
  cases v <;> revert f <;> unfold flagsWriteEoi <;> decide

/-! ### Fault set -/

@[simp] theorem FaultSet.has_add (x y : FaultReason) (f : FaultSet) : (f.add x).has y = (f.has y || decide (x = y)) := by
  cases x <;> cases y <;> simp [FaultSet.add, FaultSet.has]

@[simp] theorem FaultSet.nonempty_empty : FaultSet.empty.nonempty = false := rfl

@[simp] theorem FaultSet.nonempty_add (x : FaultReason) (f : FaultSet) : (f.add x).nonempty = true := by
  cases x <;> simp [FaultSet.add, FaultSet.nonempty]

theorem FaultSet.nonempty_eq_false {f : FaultSet} : f.nonempty = false ↔ f = .empty := by
  obtain ⟨a, b, c, d, e⟩ := f
  cases a <;> cases b <;> cases c <;> cases d <;> cases e <;> simp [FaultSet.nonempty, FaultSet.empty]

/-! ### Lines -/

@[simp] theorem UnitLines.get_put_same (l : DLine) (x : LineReg) (u : UnitLines) : (u.put l x).get l = x := by
  cases l <;> rfl

theorem UnitLines.get_put_other {l k : DLine} (h : k ≠ l) (x : LineReg) (u : UnitLines) :
    (u.put l x).get k = u.get k := by
  cases l <;> cases k <;> first | rfl | exact absurd rfl h

@[simp] theorem HostLines.get_put_same (l : Line) (v : Level) (h : HostLines) : (h.put l v).get l = v := by
  cases l <;> rfl

theorem HostLines.get_put_other {l k : Line} (h : k ≠ l) (v : Level) (u : HostLines) : (u.put l v).get k = u.get k := by
  cases l <;> cases k <;> first | rfl | exact absurd rfl h

@[simp] theorem LineReg.contrib_idle : LineReg.idle.contrib = .RELEASED := rfl

@[simp] theorem LineReg.contrib_pulled : LineReg.pulled.contrib = .PULLED := rfl

/-- A register contributes PULLED exactly when it is OUTPUT and PULLED (R23). -/
theorem LineReg.contrib_eq_pulled {x : LineReg} : x.contrib = .PULLED ↔ x.mode = .OUTPUT ∧ x.drive = .PULLED := by
  obtain ⟨m, d⟩ := x
  cases m <;> cases d <;> simp [LineReg.contrib]

theorem wiredOr_eq_pulled {a b : Level} : wiredOr a b = .PULLED ↔ a = .PULLED ∨ b = .PULLED := by
  cases a <;> cases b <;> simp [wiredOr]

@[simp] theorem wiredOr_released (b : Level) : wiredOr .RELEASED b = b := by cases b <;> rfl

@[simp] theorem wiredOr_pulled (b : Level) : wiredOr .PULLED b = .PULLED := by cases b <;> rfl

theorem level_ne_pulled {a : Level} : a ≠ .PULLED ↔ a = .RELEASED := by cases a <;> simp

theorem level_ne_released {a : Level} : a ≠ .RELEASED ↔ a = .PULLED := by cases a <;> simp

/-- The level of CLOCK depends on its register and the host alone (R24). -/
theorem level_clock (s : State) : s.level .CLOCK = wiredOr s.lines.clock.contrib s.host.clock := rfl

theorem level_data (s : State) : s.level .DATA = wiredOr s.lines.data.contrib s.host.data := rfl

theorem level_atn (s : State) : s.level .ATN = wiredOr s.lines.atn.contrib s.host.atn := rfl

theorem level_reset (s : State) : s.level .RESET = s.host.reset := rfl

theorem pull_CLOCK_eq (s : State) : s.pull .CLOCK = { s with lines := { s.lines with clock := .pulled } } := rfl

theorem pull_DATA_eq (s : State) : s.pull .DATA = { s with lines := { s.lines with data := .pulled } } := rfl

theorem release_CLOCK_eq (s : State) : s.release .CLOCK = { s with lines := { s.lines with clock := .idle } } := rfl

theorem release_DATA_eq (s : State) : s.release .DATA = { s with lines := { s.lines with data := .idle } } := rfl

theorem release_ATN_eq (s : State) : s.release .ATN = { s with lines := { s.lines with atn := .idle } } := rfl

theorem release_SRQ_eq (s : State) : s.release .SRQ = { s with lines := { s.lines with srq := .idle } } := rfl

/-! ### Reading a field that may be ⊥ (R13) -/

@[simp] theorem readField_some {α : Type} (v : α) (k : α → Out) : readField (some v) k = k v := rfl

@[simp] theorem readField_none {α : Type} (k : α → Out) : readField none k = .fault .readUnwritten := rfl

/-- Everything a read can do: stop at ⊥, or go on with the value. -/
theorem readField_cases {α : Type} (x : Option α) (k : α → Out) :
    (x = none ∧ readField x k = .fault .readUnwritten) ∨ (∃ v, x = some v ∧ readField x k = k v) := by
  cases x with
  | none => exact .inl ⟨rfl, rfl⟩
  | some v => exact .inr ⟨v, rfl, rfl⟩

/-! ### The fault reasons' numbers (R285) -/

/-- A reason is in the set exactly when its number is among the set's numbers. -/
theorem mem_codes (f : FaultSet) (x : FaultReason) : x.code ∈ f.codes ↔ f.has x = true := by
  obtain ⟨a, b, c, d, e⟩ := f
  revert a b c d e
  cases x <;> decide

/-! ### The failure draw (R132, 93 U3) and the failure value (R11, R105) -/

/-- The free value of a line's register is one of the two the spec allows. -/
theorem drawReg_cases (n : Nat) : drawReg n = ⟨.INPUT, .RELEASED⟩ ∨ drawReg n = ⟨.OUTPUT, .PULLED⟩ := by
  unfold drawReg
  split
  · exact .inr rfl
  · exact .inl rfl

theorem rxErr_negative (p : Params) : p.rxErr.slt 0 = true := by
  have h : (1#1 ++ p.rxErrLow : BitVec (1 + 15)).msb = true := by rw [BitVec.msb_append]; simp
  rw [show (0 : Word16) = 0#16 from rfl, BitVec.slt_zero_eq_msb]
  exact h

/-- A received byte is no failure value, and reading it back gives it. -/
theorem zext16_nonneg (b : Byte) : (zext16 b).slt 0 = false := by
  revert b; decide

@[simp] theorem lowByte_zext16 (b : Byte) : lowByte (zext16 b) = b := by
  revert b; decide

/-! ### Issuing and running (R281) -/

/-- A step the block's own procedure runs here is run. -/
theorem operate_own {i : Instr} {s : State} (h : s.unitOp = some i) (a : Admission) (c : Ctl) (k : State → Out) :
    operate i a c k s = k s := by simp [operate, h]

/-- An operation issued at READY with nothing in progress: the checks of R281 in order, then its first step. -/
theorem operate_issued {s : State} (hc : s.ctl = .READY) (hb : s.busy = false) (i : Instr) (a : Admission) (c : Ctl)
    (k : State → Out) :
    operate i a c k s =
      if a.contract = false then raise .F_CONTRACT s
      else if a.args = false then raise .F_BAD_ARG s
      else if a.sticky = true then raise .F_STICKY_ERROR s
      else k { s with ctl := c, busy := true } := by
  have h : s.unitOp = none := by simp [State.unitOp, hc]
  simp [operate, h, State.inProgress, hb, hc]

/-- An operation that is not the procedure's own, issued while one is in progress (R290). -/
theorem operate_reentry {i : Instr} {s : State} (h : s.unitOp ≠ some i) (hp : s.inProgress = true) (a : Admission)
    (c : Ctl) (k : State → Out) : operate i a c k s = raise .F_REENTRY s := by simp [operate, h, hp]

/-- Everything `operate` can do: run the procedure's own step, raise one of the faults, or start the operation. -/
theorem operate_cases (i : Instr) (a : Admission) (c : Ctl) (k : State → Out) (s : State) :
    (s.unitOp = some i ∧ operate i a c k s = k s) ∨
    (∃ x, operate i a c k s = raise x s) ∨
    (s.unitOp ≠ some i ∧ s.inProgress = false ∧ a.contract = true ∧ a.args = true ∧ a.sticky = false ∧
      operate i a c k s = k { s with ctl := c, busy := true }) := by
  by_cases h : s.unitOp = some i
  · exact .inl ⟨h, operate_own h a c k⟩
  · by_cases hp : s.inProgress = true
    · exact .inr (.inl ⟨_, operate_reentry h hp a c k⟩)
    · have hp' : s.inProgress = false := by simpa using hp
      rcases hcn : a.contract with _ | _
      · exact .inr (.inl ⟨.F_CONTRACT, by simp [operate, h, hp', hcn]⟩)
      rcases har : a.args with _ | _
      · exact .inr (.inl ⟨.F_BAD_ARG, by simp [operate, h, hp', hcn, har]⟩)
      rcases hst : a.sticky with _ | _
      · exact .inr (.inr ⟨h, hp', rfl, rfl, rfl, by simp [operate, h, hp', hcn, har, hst]⟩)
      · exact .inr (.inl ⟨.F_STICKY_ERROR, by simp [operate, h, hp', hcn, har, hst]⟩)

/-- Nothing is in progress exactly at READY and not busy (R45, R53). -/
theorem inProgress_false {s : State} : s.inProgress = false ↔ s.busy = false ∧ s.ctl = .READY := by
  simp [State.inProgress]

/-! ### Waits (R62, R63, R151) -/

/-- Everything a spin-wait can do: go on, hold, or under BOUNDED take the timeout step. -/
theorem waitUntil_cases (l : Line) (v : Level) (seen late : State → Out) (s : State) :
    (s.level l = v ∧ waitUntil l v seen late s = seen s) ∨
    (s.level l ≠ v ∧ waitUntil l v seen late s = .next s) ∨
    (s.level l ≠ v ∧ s.params.spinPolicy = .BOUNDED ∧ ∃ rest, s.script = .timeout :: rest ∧
      waitUntil l v seen late s = late { s with script := rest }.setError) := by
  by_cases h : s.level l = v
  · exact .inl ⟨h, by simp [waitUntil, h]⟩
  · unfold waitUntil
    rw [if_neg h]
    split
    · rename_i rest hp hs
      exact .inr (.inr ⟨h, hp, rest, hs, rfl⟩)
    · exact .inr (.inl ⟨h, rfl⟩)

theorem waitWithin_cases (l : Line) (v : Level) (seen late : State → Out) (s : State) :
    (s.level l = v ∧ waitWithin l v seen late s = seen s) ∨
    (s.level l ≠ v ∧ waitWithin l v seen late s = .next s) ∨
    (s.level l ≠ v ∧ ∃ rest, s.script = .timeout :: rest ∧
      waitWithin l v seen late s = late { s with script := rest }) := by
  by_cases h : s.level l = v
  · exact .inl ⟨h, by simp [waitWithin, h]⟩
  · unfold waitWithin
    rw [if_neg h]
    split
    · rename_i rest hs
      exact .inr (.inr ⟨h, rest, hs, rfl⟩)
    · exact .inr (.inl ⟨h, rfl⟩)

theorem waitFree_cases (l : Line) (v : Level) (seen : State → Out) (s : State) :
    (s.level l = v ∧ waitFree l v seen s = seen s) ∨ (s.level l ≠ v ∧ waitFree l v seen s = .next s) := by
  by_cases h : s.level l = v
  · exact .inl ⟨h, by simp [waitFree, h]⟩
  · exact .inr ⟨h, by simp [waitFree, h]⟩

/-! ### The caller's string (R106, R110) -/

/-- The string depends on the program and the caller's position alone. -/
theorem callerString_congr {s t : State} (h : t.prog = s.prog) (k : t.pc = s.pc) : t.callerString = s.callerString := by
  simp only [State.callerString, h, k]

/-! ### Exit (R198) -/

/-- `exit(S)`: the three silent results start the line release, the three data results return at once. -/
theorem exitService_cases (S : BusState) (s : State) :
    ((S = .IDLE ∨ S = .ERROR ∨ S = .RESET) ∧ exitService S s = .next { s with ctl := .RL_CLK (.exit S) }) ∨
    ((S = .LISTEN ∨ S = .TALK ∨ S = .COMMAND) ∧ exitService S s = .next (s.dataExit S)) := by
  cases S <;> simp [exitService, goto]

end Sys2Proof.Machine
end

