-- ==== Sys2Proof/Laws/PerInstr.lean ====
section
/-! SUPPORT. The per-instruction family ReservedZero: an operation word's bits 7:0 are zero (R106). -/

namespace Sys2Proof.Laws.ReservedZero

/-- Where the instruction is an operation word, its reserved bits are zero (R106). -/
def Statement (i : Instr) : Prop := ∀ w, encode i = .opWord w → OpWord.reserved w = 0#8

theorem pull (l : Line) : Statement (.pull l) := by
  intro w h
  cases h
  exact reserved_make _ _ _

theorem rel (l : Line) : Statement (.rel l) := by
  intro w h
  cases h
  exact reserved_make _ _ _

theorem mode (l : Line) (m : PinMode) : Statement (.mode l m) := by
  intro w h
  cases h
  exact reserved_make _ _ _

theorem stat (l : Line) : Statement (.stat l) := by
  intro w h
  cases h
  exact reserved_make _ _ _

theorem rxb (d : Byte) : Statement (.rxb d) := by
  intro w h
  cases h
  exact reserved_make _ _ _

theorem txb (b : Byte) (last : Bool) : Statement (.txb b last) := by
  intro w h
  cases h
  exact reserved_make _ _ _

theorem service : Statement .service := by
  intro w h
  cases h
  exact reserved_make _ _ _

theorem send (b : Byte) : Statement (.send b) := by
  intro w h
  cases h
  exact reserved_make _ _ _

theorem sends : Statement .sends := by
  intro w h
  cases h
  exact reserved_make _ _ _

theorem sendeoi (b : Byte) : Statement (.sendeoi b) := by
  intro w h
  cases h
  exact reserved_make _ _ _

theorem sendfnf : Statement .sendfnf := by
  intro w h
  cases h
  exact reserved_make _ _ _

theorem recv (d : Byte) (has : Bool) : Statement (.recv d has) := by
  intro w h
  cases h
  exact reserved_make _ _ _

theorem isen (d : Byte) : Statement (.isen d) := by
  intro w h
  cases h
  exact reserved_make _ _ _

theorem en (d : Byte) : Statement (.en d) := by
  intro w h
  cases h
  exact reserved_make _ _ _

theorem dis (d : Byte) : Statement (.dis d) := by
  intro w h
  cases h
  exact reserved_make _ _ _

theorem rell (w : Bool) : Statement (.rell w) := by
  intro w h
  cases h
  exact reserved_make _ _ _

theorem turnaround : Statement .turnaround := by
  intro w h
  cases h
  exact reserved_make _ _ _

theorem undoTurnaround : Statement .undoTurnaround := by
  intro w h
  cases h
  exact reserved_make _ _ _

theorem atnUnlisten : Statement .atnUnlisten := by
  intro w h
  cases h

theorem atnUntalk : Statement .atnUntalk := by
  intro w h
  cases h

theorem atnGlobal (d : BitVec 4) : Statement (.atnGlobal d) := by
  intro w h
  cases h

theorem atnListen (d : BitVec 4) : Statement (.atnListen d) := by
  intro w h
  cases h

theorem atnTalk (d : BitVec 4) : Statement (.atnTalk d) := by
  intro w h
  cases h

theorem atnSecond (c : BitVec 4) : Statement (.atnSecond c) := by
  intro w h
  cases h

theorem atnClose (c : BitVec 4) : Statement (.atnClose c) := by
  intro w h
  cases h

theorem atnOpen (c : BitVec 4) : Statement (.atnOpen c) := by
  intro w h
  cases h

theorem atnNone1 (x : BitVec 4) : Statement (.atnNone1 x) := by
  intro w h
  cases h

theorem atnNone3 (x : BitVec 4) : Statement (.atnNone3 x) := by
  intro w h
  cases h

theorem atnNone5 (x : BitVec 4) : Statement (.atnNone5 x) := by
  intro w h
  cases h

theorem atnNone7 (x : BitVec 4) : Statement (.atnNone7 x) := by
  intro w h
  cases h

theorem atnNone8 (x : BitVec 6) : Statement (.atnNone8 x) := by
  intro w h
  cases h

theorem atnNoneC (x : BitVec 5) : Statement (.atnNoneC x) := by
  intro w h
  cases h

end Sys2Proof.Laws.ReservedZero
end

