-- ==== Sys2Proof/Laws/Procedures.lean ====
section
/-! SUPPORT. What one step of a byte transaction, and one line action, can do, at either byte level. -/

namespace Sys2Proof.Machine

/-- A register that was kept, or became one of the two a byte transaction leaves (R120, R122, R132, R136). -/
def LineReg.touched (old new : LineReg) : Prop := new = old ∨ new = .idle ∨ new = .pulled

theorem LineReg.touched_refl (x : LineReg) : x.touched x := .inl rfl

theorem LineReg.touched_draw (x : LineReg) (n : Nat) : x.touched (drawReg n) := by
  rcases drawReg_cases n with h | h
  · exact .inr (.inl h)
  · exact .inr (.inr h)

/-- What a step of a byte transaction may change: CLOCK and DATA, the flags (without clearing ERROR, JIFFY_ACTIVE and the
reserved bits kept
0), the script, the level-L handshake and the counter of free values. -/
structure Handshake (s t : State) : Prop where
  host : t.host = s.host
  enabled : t.enabled = s.enabled
  data : t.data = s.data
  ctl : t.ctl = s.ctl
  prim : t.prim = s.prim
  r : t.r = s.r
  phase : t.phase = s.phase
  faults : t.faults = s.faults
  busy : t.busy = s.busy
  params : t.params = s.params
  prog : t.prog = s.prog
  pc : t.pc = s.pc
  atnLine : t.lines.atn = s.lines.atn
  srqLine : t.lines.srq = s.lines.srq
  clockLine : s.lines.clock.touched t.lines.clock
  dataLine : s.lines.data.touched t.lines.data
  error : s.error = true → t.error = true
  reserved : s.flags &&& 0xFC#8 = 0#8 → t.flags &&& 0xFC#8 = 0#8

theorem Handshake.refl (s : State) : Handshake s s := by
  constructor <;> first | rfl | exact .inl rfl | exact id

/-- Only the script and the handshake's position move. -/
theorem Handshake.moved (s : State) (script : List Turn) (shake : Shake) :
    Handshake s { s with script := script, shake := shake } := by
  constructor <;> first | rfl | exact .inl rfl | exact id

theorem Handshake.ofLines {s t : State} (u : UnitLines) (script : List Turn) (shake : Shake)
    (ht : t = { s with lines := u, script := script, shake := shake }) (ha : u.atn = s.lines.atn) (hs : u.srq = s.lines.srq)
    (hc : s.lines.clock.touched u.clock) (hd : s.lines.data.touched u.data) : Handshake s t := by
  subst ht
  constructor <;> first | rfl | assumption | exact id

/-- The end of a transaction that writes EOI and leaves CLOCK and DATA at `x` and `y`. -/
theorem Handshake.ended (s : State) (v : Bool) (x y : LineReg) (script : List Turn) (shake : Shake) (draws : Nat)
    (hx : s.lines.clock.touched x) (hy : s.lines.data.touched y) :
    Handshake s { s.writeEoi v with
      lines := { s.lines with clock := x, data := y }, script := script, draws := draws, shake := shake } := by
  constructor
  case error => intro h; exact (writeEoi_error v s).trans h
  case reserved => exact flagsWriteEoi_reserved v
  all_goals first | rfl | assumption

/-- The end of a transaction that sets ERROR too. -/
theorem Handshake.failed (s : State) (v : Bool) (x y : LineReg) (script : List Turn) (shake : Shake) (draws : Nat)
    (hx : s.lines.clock.touched x) (hy : s.lines.data.touched y) :
    Handshake s { s.setError.writeEoi v with
      lines := { s.lines with clock := x, data := y }, script := script, draws := draws, shake := shake } := by
  constructor
  case error => intro _; exact (writeEoi_error v s.setError).trans (setError_error s)
  case reserved => intro h; exact flagsWriteEoi_reserved v (flagsSetError_reserved h)
  all_goals first | rfl | assumption

/-- Everything one step of `receiveByte` can do: end with a value (not a failure, or `RX_ERR`) that the procedure goes on
from, or still be
under way, held or at a later step. -/
theorem rxStep_cases (s : State) :
    (∃ u v, Handshake s u ∧ (u.shake = .idle ∨ (s.params.byteLevel = .T ∧ u.shake = s.shake)) ∧
      ((∃ b, v = zext16 b) ∨ (v = s.params.rxErr ∧ u.error = true)) ∧ rxStep s = afterRx v u) ∨
    (∃ u, Handshake s u ∧ (u.shake = s.shake ∨ (s.params.byteLevel = .L ∧ ∃ p e a, u.shake = .rx p e a)) ∧
      rxStep s = .next u) := by
  unfold rxStep
  split
  · rename_i hl
    unfold rxRendezvous
    split
    · rename_i a rest hs
      left
      cases a with
      | ok b eoi =>
        exact ⟨_, zext16 b, Handshake.ended s eoi .idle .pulled rest s.shake s.draws (.inr (.inl rfl)) (.inr (.inr rfl)),
          .inr ⟨hl, rfl⟩, .inl ⟨b, rfl⟩, rfl⟩
      | fail =>
        exact ⟨_, _, Handshake.failed s false (drawReg s.draws) (drawReg (s.draws + 1)) rest s.shake (s.draws + 2)
          (LineReg.touched_draw _ _) (LineReg.touched_draw _ _), .inr ⟨hl, rfl⟩,
          .inr ⟨rfl, (writeEoi_error false s.setError).trans (setError_error s)⟩, rfl⟩
    · exact .inr ⟨s, .refl s, .inl rfl, rfl⟩
  · rename_i hl
    have go : ∀ (t : State) (p : RxStep) (e : Bool) (a : Byte), Handshake s t →
        ∃ u, Handshake s u ∧ (u.shake = s.shake ∨ (s.params.byteLevel = .L ∧ ∃ p e a, u.shake = .rx p e a)) ∧
          rxGoto p e a t = .next u := by
      intro t p e a h
      refine ⟨{ t with shake := .rx p e a }, ?_, .inr ⟨hl, p, e, a, rfl⟩, rfl⟩
      exact ⟨h.host, h.enabled, h.data, h.ctl, h.prim, h.r, h.phase, h.faults, h.busy, h.params, h.prog, h.pc, h.atnLine,
        h.srqLine, h.clockLine, h.dataLine, h.error, h.reserved⟩
    have hold : ∃ u, Handshake s u ∧ (u.shake = s.shake ∨ (s.params.byteLevel = .L ∧ ∃ p e a, u.shake = .rx p e a)) ∧
        (Host.Outcome.next s : Out) = .next u := ⟨s, .refl s, .inl rfl, rfl⟩
    have fail : ∀ rest, ∃ u v, Handshake s u ∧ (u.shake = .idle ∨ (s.params.byteLevel = .T ∧ u.shake = s.shake)) ∧
        ((∃ b, v = zext16 b) ∨ (v = s.params.rxErr ∧ u.error = true)) ∧
        rxFailLine { s with script := rest } = afterRx v u := by
      intro rest
      refine ⟨_, _, Handshake.failed s false s.lines.clock s.lines.data rest .idle s.draws (.inl rfl) (.inl rfl), .inl rfl,
        .inr ⟨rfl, ?_⟩, rfl⟩
      exact (writeEoi_error false s.setError).trans (setError_error s)
    have data : ∀ x : LineReg, (x = .idle ∨ x = .pulled) →
        Handshake s { s with lines := { s.lines with data := x } } := by
      intro x hx
      exact Handshake.ofLines { s.lines with data := x } s.script s.shake rfl rfl rfl (.inl rfl) (.inr hx)
    have line : ∀ (p : RxStep) (e : Bool) (a : Byte),
        (∃ u v, Handshake s u ∧ (u.shake = .idle ∨ (s.params.byteLevel = .T ∧ u.shake = s.shake)) ∧
          ((∃ b, v = zext16 b) ∨ (v = s.params.rxErr ∧ u.error = true)) ∧
          rxLineStep p e a s = afterRx v u) ∨
        (∃ u, Handshake s u ∧ (u.shake = s.shake ∨ (s.params.byteLevel = .L ∧ ∃ p e a, u.shake = .rx p e a)) ∧
          rxLineStep p e a s = .next u) := by
      intro p e a
      have within : ∀ (v : Level) (q : State → Out),
          (∀ t, Handshake s t → ∃ u, Handshake s u ∧
            (u.shake = s.shake ∨ (s.params.byteLevel = .L ∧ ∃ p e a, u.shake = .rx p e a)) ∧ q t = .next u) →
          (∃ u w, Handshake s u ∧ (u.shake = .idle ∨ (s.params.byteLevel = .T ∧ u.shake = s.shake)) ∧
            ((∃ b, w = zext16 b) ∨ (w = s.params.rxErr ∧ u.error = true)) ∧
            waitWithin .CLOCK v q rxFailLine s = afterRx w u) ∨
          (∃ u, Handshake s u ∧ (u.shake = s.shake ∨ (s.params.byteLevel = .L ∧ ∃ p e a, u.shake = .rx p e a)) ∧
            waitWithin .CLOCK v q rxFailLine s = .next u) := by
        intro v q hq
        rcases waitWithin_cases .CLOCK v q rxFailLine s with ⟨_, h⟩ | ⟨_, h⟩ | ⟨_, rest, _, h⟩ <;> rw [h]
        · exact .inr (hq s (.refl s))
        · exact .inr hold
        · exact .inl (fail rest)
      cases p with
      | waitReady =>
        rcases waitFree_cases .CLOCK .RELEASED (rxGoto .relData false 0) s with ⟨_, h⟩ | ⟨_, h⟩
        · right; show ∃ u, _ ∧ _ ∧ waitFree _ _ _ _ = _; rw [h]; exact go s _ _ _ (.refl s)
        · right; show ∃ u, _ ∧ _ ∧ waitFree _ _ _ _ = _; rw [h]; exact hold
      | relData => exact .inr (go _ _ _ _ (data .idle (.inl rfl)))
      | waitEoi =>
        rcases waitWithin_cases .CLOCK .PULLED (rxGoto (.bitRise 0) e a) (rxGoto .eoiPull true a) s with
          ⟨_, h⟩ | ⟨_, h⟩ | ⟨_, rest, _, h⟩
        all_goals right; show ∃ u, _ ∧ _ ∧ waitWithin _ _ _ _ _ = _; rw [h]
        · exact go s _ _ _ (.refl s)
        · exact hold
        · exact go _ _ _ _ (Handshake.moved s rest s.shake)
      | eoiPull => exact .inr (go _ _ _ _ (data .pulled (.inr rfl)))
      | eoiHold => exact .inr (go s _ _ _ (.refl s))
      | eoiRel => exact .inr (go _ _ _ _ (data .idle (.inl rfl)))
      | eoiEnd => exact within .PULLED _ fun t h => go t _ _ _ h
      | bitRise i => exact within .RELEASED _ fun t h => go t _ _ _ h
      | bitSample i => exact .inr (go s _ _ _ (.refl s))
      | bitFall i =>
        unfold rxLineStep
        refine within .PULLED _ fun t h => ?_
        split
        · exact go t _ _ _ h
        · exact go t _ _ _ h
      | ack =>
        left
        exact ⟨_, zext16 a,
          Handshake.ended s e s.lines.clock .pulled s.script .idle s.draws (.inl rfl) (.inr (.inr rfl)), .inl rfl,
          .inl ⟨a, rfl⟩, rfl⟩
    split
    · exact line _ _ _
    · exact line _ _ _
    · exact line _ _ _

/-- Everything one step of `sendByte` can do. -/
theorem txStep_cases (b : Byte) (last : Bool) (s : State) :
    (∃ u ok, Handshake s u ∧ (u.shake = .idle ∨ (s.params.byteLevel = .T ∧ u.shake = s.shake)) ∧
      (ok = false → u.error = true) ∧ txStep b last s = afterTx ok u) ∨
    (∃ u, Handshake s u ∧ (u.shake = s.shake ∨ (s.params.byteLevel = .L ∧ ∃ p, u.shake = .tx p)) ∧
      txStep b last s = .next u) := by
  unfold txStep
  split
  · rename_i hl
    unfold txRendezvous
    split
    · rename_i a rest hs
      left
      cases a with
      | ack =>
        exact ⟨_, true, Handshake.ended s last .pulled .idle rest s.shake s.draws (.inr (.inr rfl)) (.inr (.inl rfl)),
          .inr ⟨hl, rfl⟩, (fun h => by cases h), rfl⟩
      | fail =>
        exact ⟨_, false, Handshake.failed s false (drawReg s.draws) (drawReg (s.draws + 1)) rest s.shake (s.draws + 2)
          (LineReg.touched_draw _ _) (LineReg.touched_draw _ _), .inr ⟨hl, rfl⟩,
          (fun _ => (writeEoi_error false s.setError).trans (setError_error s)), rfl⟩
    · exact .inr ⟨s, .refl s, .inl rfl, rfl⟩
  · rename_i hl
    have go : ∀ (t : State) (p : TxStep), Handshake s t →
        ∃ u, Handshake s u ∧ (u.shake = s.shake ∨ (s.params.byteLevel = .L ∧ ∃ p, u.shake = .tx p)) ∧
          txGoto p t = .next u := by
      intro t p h
      refine ⟨{ t with shake := .tx p }, ?_, .inr ⟨hl, p, rfl⟩, rfl⟩
      exact ⟨h.host, h.enabled, h.data, h.ctl, h.prim, h.r, h.phase, h.faults, h.busy, h.params, h.prog, h.pc, h.atnLine,
        h.srqLine, h.clockLine, h.dataLine, h.error, h.reserved⟩
    have hold : ∃ u, Handshake s u ∧ (u.shake = s.shake ∨ (s.params.byteLevel = .L ∧ ∃ p, u.shake = .tx p)) ∧
        (Host.Outcome.next s : Out) = .next u := ⟨s, .refl s, .inl rfl, rfl⟩
    have fail : ∀ rest, ∃ u ok, Handshake s u ∧ (u.shake = .idle ∨ (s.params.byteLevel = .T ∧ u.shake = s.shake)) ∧
      (ok = false → u.error = true) ∧
        txFailLine { s with script := rest } = afterTx ok u := by
      intro rest
      refine ⟨_, false, Handshake.failed s false s.lines.clock s.lines.data rest .idle s.draws (.inl rfl) (.inl rfl), .inl rfl,
        (fun _ => ?_), rfl⟩
      exact (writeEoi_error false s.setError).trans (setError_error s)
    have data : ∀ x : LineReg, (x = .idle ∨ x = .pulled) →
        Handshake s { s with lines := { s.lines with data := x } } := by
      intro x hx
      exact Handshake.ofLines { s.lines with data := x } s.script s.shake rfl rfl rfl (.inl rfl) (.inr hx)
    have clock : ∀ x : LineReg, (x = .idle ∨ x = .pulled) →
        Handshake s { s with lines := { s.lines with clock := x } } := by
      intro x hx
      exact Handshake.ofLines { s.lines with clock := x } s.script s.shake rfl rfl rfl (.inr hx) (.inl rfl)
    have within : ∀ (v : Level) (p : TxStep),
        (∃ u ok, Handshake s u ∧ (u.shake = .idle ∨ (s.params.byteLevel = .T ∧ u.shake = s.shake)) ∧
          (ok = false → u.error = true) ∧
          waitWithin .DATA v (txGoto p) txFailLine s = afterTx ok u) ∨
        (∃ u, Handshake s u ∧ (u.shake = s.shake ∨ (s.params.byteLevel = .L ∧ ∃ p, u.shake = .tx p)) ∧
          waitWithin .DATA v (txGoto p) txFailLine s = .next u) := by
      intro v p
      rcases waitWithin_cases .DATA v (txGoto p) txFailLine s with ⟨_, h⟩ | ⟨_, h⟩ | ⟨_, rest, _, h⟩ <;> rw [h]
      · exact .inr (go s _ (.refl s))
      · exact .inr hold
      · exact .inl (fail rest)
    have line : ∀ p : TxStep,
        (∃ u ok, Handshake s u ∧ (u.shake = .idle ∨ (s.params.byteLevel = .T ∧ u.shake = s.shake)) ∧
          (ok = false → u.error = true) ∧ txLineStep b last p s = afterTx ok u) ∨
        (∃ u, Handshake s u ∧ (u.shake = s.shake ∨ (s.params.byteLevel = .L ∧ ∃ p, u.shake = .tx p)) ∧
          txLineStep b last p s = .next u) := by
      intro p
      cases p with
      | relClk => exact .inr (go _ _ (clock .idle (.inl rfl)))
      | waitReady =>
        rcases waitFree_cases .DATA .RELEASED (txGoto (if last then .eoiPulled else .neDelay)) s with ⟨_, h⟩ | ⟨_, h⟩
        · right; show ∃ u, _ ∧ _ ∧ waitFree _ _ _ _ = _; rw [h]; exact go s _ (.refl s)
        · right; show ∃ u, _ ∧ _ ∧ waitFree _ _ _ _ = _; rw [h]; exact hold
      | eoiPulled => exact within .PULLED _
      | eoiReleased => exact within .RELEASED _
      | neDelay => exact .inr (go s _ (.refl s))
      | pullClk => exact .inr (go _ _ (clock .pulled (.inr rfl)))
      | bitData i =>
        right
        show ∃ u, _ ∧ _ ∧ txGoto _ (putBit b i s) = _
        unfold putBit
        split
        · exact go _ _ (data .idle (.inl rfl))
        · exact go _ _ (data .pulled (.inr rfl))
      | bitSetup i => exact .inr (go s _ (.refl s))
      | bitRelClk i => exact .inr (go _ _ (clock .idle (.inl rfl)))
      | bitHold i => exact .inr (go s _ (.refl s))
      | bitPullClk i => exact .inr (go _ _ (clock .pulled (.inr rfl)))
      | bitRelData i =>
        right
        unfold txLineStep
        dsimp only
        split
        · exact go _ _ (data .idle (.inl rfl))
        · exact go _ _ (data .idle (.inl rfl))
      | frameAck => exact within .PULLED _
      | betweenBytes =>
        left
        exact ⟨_, true, Handshake.ended s last s.lines.clock s.lines.data s.script .idle s.draws (.inl rfl) (.inl rfl),
          .inl rfl,
          (fun h => by cases h), rfl⟩
    split
    · exact line _
    · exact line _
    · exact line _

/-- A sticky-error check either raises the fault or runs the transaction's step (R131). -/
theorem stickyCheck_cases (k : State → Out) (s : State) :
    (s.shake = .idle ∧ s.error = true ∧ stickyCheck k s = raise .F_STICKY_ERROR s) ∨
    (¬ (s.shake = .idle ∧ s.error = true) ∧ stickyCheck k s = k s) := by
  by_cases h : s.shake = .idle ∧ s.error = true
  · exact .inl ⟨h.1, h.2, by simp [stickyCheck, h]⟩
  · exact .inr ⟨h, by simp only [stickyCheck, if_neg h]⟩

end Sys2Proof.Machine
end

