-- ==== Sys2Proof/Laws/Step.lean ====
section
/-! SUPPORT. What a step and a run can do. -/

namespace Sys2Proof.Machine

/-! ### Runs -/

theorem run_zero (s : State) : run 0 s = .next s := rfl

theorem run_next {s t : State} (h : step s = .next t) (n : Nat) : run (n + 1) s = run n t := by
  have h' : Sys2Proof.core.step s = .next t := h
  simp only [run, Host.Core.run, h']
  rfl

theorem run_fault {s : State} {r : Fault} (h : step s = .fault r) (n : Nat) : run (n + 1) s = .fault r := by
  have h' : Sys2Proof.core.step s = .fault r := h
  simp only [run, Host.Core.run, h']
  rfl

theorem run_refused {s : State} {r : Refusal} (h : step s = .refused r) (n : Nat) : run (n + 1) s = .refused r := by
  have h' : Sys2Proof.core.step s = .refused r := h
  simp only [run, Host.Core.run, h']
  rfl

/-- A run of `n + m` steps is a run of `n` and then one of `m`. -/
theorem run_add {s t : State} {n : Nat} (h : run n s = .next t) (m : Nat) : run (n + m) s = run m t := by
  induction n generalizing s with
  | zero =>
    have : s = t := by simpa [run_zero] using h
    subst this; simp
  | succ n ih =>
    cases hs : step s with
    | next u =>
      rw [run_next hs] at h
      have e : n + 1 + m = (n + m) + 1 := by omega
      rw [e, run_next hs]; exact ih h
    | fault r => rw [run_fault hs] at h; cases h
    | refused r => rw [run_refused hs] at h; cases h

/-- A state that a step leaves as it is stays for ever: a hold, or the end of the program. -/
theorem run_fixed {s : State} (h : step s = .next s) (n : Nat) : run n s = .next s := by
  induction n with
  | zero => rfl
  | succ n ih => rw [run_next h, ih]

/-- From such a state a run arrives nowhere else. -/
theorem reaches_fixed {s t : State} (h : step s = .next s) : s.reaches t ↔ t = s := by
  constructor
  · rintro ⟨n, hn⟩
    rw [run_fixed h] at hn
    cases hn; rfl
  · rintro rfl; exact ⟨0, rfl⟩

/-! ### Whose turn it is -/

/-- Everything the choice of the turn can do. -/
theorem mover_cases (s : State) :
    (∃ l v rest, s.script = .hSet l v :: rest ∧ mover s = .other { s.hostSet l v with script := rest }) ∨
    (∃ w rest, s.script = .intrude w :: rest ∧ s.inProgress = true ∧
      mover s = .other { s.addFault (intruderFault w) with script := rest }) ∨
    (∃ rest, s.script = .unit :: rest ∧ mover s = .unit { s with script := rest }) ∨
    mover s = .unit s := by
  unfold mover
  split
  · rename_i l v rest h; exact .inl ⟨l, v, rest, h, rfl⟩
  · rename_i rest h; exact .inr (.inr (.inl ⟨rest, h, rfl⟩))
  · rename_i w rest h
    split
    · rename_i hp; exact .inr (.inl ⟨w, rest, h, hp, rfl⟩)
    · exact .inr (.inr (.inr rfl))
  all_goals exact .inr (.inr (.inr rfl))

/-- With no fault recorded, a step is what the choice of the turn gives. -/
theorem step_of_mover {s : State} (hf : s.faults = .empty) :
    step s = match mover s with
      | .other t => .next t
      | .unit t => unitTurn t := by
  have h : s.faults.nonempty = false := by rw [hf]; rfl
  unfold step
  rw [h]
  rfl

/-- With nothing in the script the unit moves. -/
theorem mover_nil {s : State} (hs : s.script = []) : mover s = .unit s := by simp [mover, hs]

/-- Inside an operation the unit fetches the instruction of the procedure's step (R45). -/
theorem fetch_own {s : State} {i : Instr} (hc : s.ctl ≠ .READY) (hu : s.unitOp = some i) : fetch s = .run i := by
  unfold fetch
  split
  · exact absurd ‹_› hc
  · rw [hu]

/-- At READY the unit fetches the instruction the caller's line decodes to. -/
theorem fetch_line {s : State} {w : OpWord} {str : List Byte} {i : Instr} (hc : s.ctl = .READY)
    (hp : s.prog[s.pc]? = some (.op w str)) (hd : decodeOp w = .ok i) : fetch s = .run i := by
  simp [fetch, hc, hp, hd]

/-- A step with a next state: a host step, a second caller's fault, or the unit's turn (after a `unit` turn, with that turn used up). -/
theorem step_next_cases {s t : State} (h : step s = .next t) :
    s.faults = .empty ∧
    ((∃ l v rest, s.script = .hSet l v :: rest ∧ t = { s.hostSet l v with script := rest }) ∨
     (∃ w rest, s.script = .intrude w :: rest ∧ s.inProgress = true ∧
        t = { s.addFault (intruderFault w) with script := rest }) ∨
     (∃ rest, s.script = .unit :: rest ∧ unitTurn { s with script := rest } = .next t) ∨
     unitTurn s = .next t) := by
  unfold step at h
  split at h
  · cases h
  · rename_i hf
    refine ⟨FaultSet.nonempty_eq_false.mp (by simpa using hf), ?_⟩
    rcases mover_cases s with ⟨l, v, rest, hs, hm⟩ | ⟨w, rest, hs, hp, hm⟩ | ⟨rest, hs, hm⟩ | hm <;> rw [hm] at h
    · exact .inl ⟨l, v, rest, hs, by cases h; rfl⟩
    · exact .inr (.inl ⟨w, rest, hs, hp, by cases h; rfl⟩)
    · exact .inr (.inr (.inl ⟨rest, hs, h⟩))
    · exact .inr (.inr (.inr h))

/-- The unit's turn with a next state: it ran an instruction, recorded F_BAD_OP, stood at the program's end, or took a branch. -/
theorem unitTurn_next_cases {s t : State} (h : unitTurn s = .next t) :
    (∃ i, fetch s = .run i ∧ exec i s = .next t) ∨
    (s.ctl = .READY ∧
      (t = s ∨ t = s.addFault .F_BAD_OP ∨ ∃ n, t = { s with pc := n })) := by
  unfold unitTurn at h
  split at h
  · rename_i i hf; exact .inl ⟨i, hf, h⟩
  · rename_i o hf
    right
    have hb : ∀ line, branch line s = .next t → ∃ n, t = { s with pc := n } := by
      intro line hl
      unfold branch at hl
      rcases readField_cases (branchTaken line s) _ with ⟨_, h⟩ | ⟨_, _, h⟩ <;> rw [h] at hl <;> cases hl
      exact ⟨_, rfl⟩
    unfold fetch at hf
    split at hf
    · rename_i hc
      refine ⟨hc, ?_⟩
      split at hf
      · cases hf; cases h; exact .inl rfl
      · split at hf
        · cases hf
        · cases hf; cases h; exact .inr (.inl rfl)
      all_goals cases hf; exact .inr (.inr (hb _ h))
    · split at hf
      · cases hf
      · cases hf; cases h

/-- What the unit runs: the decoded word of the caller's line at READY, the procedure's own operation elsewhere. -/
theorem fetch_run_cases {s : State} {i : Instr} (h : fetch s = .run i) :
    (s.ctl = .READY ∧ ∃ w str, s.prog[s.pc]? = some (.op w str) ∧ decodeOp w = .ok i) ∨
    (s.ctl ≠ .READY ∧ s.unitOp = some i) := by
  unfold fetch at h
  split at h
  · rename_i hc
    left; refine ⟨hc, ?_⟩
    split at h
    · cases h
    · rename_i w str hl
      split at h
      · rename_i j hd; cases h; exact ⟨w, str, hl, hd⟩
      · cases h
    all_goals cases h
  · rename_i hc
    right; refine ⟨hc, ?_⟩
    split at h
    · rename_i j hj; cases h; exact hj
    · cases h

end Sys2Proof.Machine
end

