-- ==== Sys2Proof/Tests/Slice0.lean ====
section
/-! SUPPORT. Tests: expected values from 95_test_vectors.md and the rules it cites; and, for each statement with hypotheses, a state and
operands that meet them. -/

namespace Sys2Proof.Tests

open Sys2Proof Sys2Proof.Machine

/-! ### Well-formedness: each check refuses an ill-formed term (R92, R95) -/

theorem test_wf_none3_refuses_unlisten : (Instr.atnNone3 0xF).wf = false := by decide

theorem test_wf_none5_refuses_untalk : (Instr.atnNone5 0xF).wf = false := by decide

theorem test_wf_none3_accepts_others : (Instr.atnNone3 0xE).wf = true := by decide

/-! ### Fault reasons: their numbers (R285) -/

theorem test_fault_codes : (FaultSet.add .F_REENTRY (FaultSet.add .F_CONTRACT .empty)).codes = [2, 5] := by decide

/-! ### Decoding: words written out from R106, R107 and 95_test_vectors.md V-O1, V-O2 -/

theorem test_decode_pull : decodeTableWord 32 0b00000001_00000010_00000000_00000000 = some (.pull .DATA) := by decide
theorem test_decode_rel : decodeTableWord 32 0b00000010_00000001_00000000_00000000 = some (.rel .CLOCK) := by decide
theorem test_decode_mode : decodeTableWord 32 0b00000011_00000011_00000001_00000000 = some (.mode .SRQ .OUTPUT) := by decide
theorem test_decode_stat : decodeTableWord 32 0b00000100_00000100_00000000_00000000 = some (.stat .RESET) := by decide
theorem test_decode_rxb : decodeTableWord 32 0b00000101_00001000_00000000_00000000 = some (.rxb 8) := by decide
theorem test_decode_txb : decodeTableWord 32 0b00000110_01000001_00000001_00000000 = some (.txb 0x41 true) := by decide
theorem test_decode_service : decodeTableWord 32 0b00010000_00000000_00000000_00000000 = some .service := by decide
theorem test_decode_send : decodeTableWord 32 0b00010001_01000001_00000000_00000000 = some (.send 0x41) := by decide
theorem test_decode_sends : decodeTableWord 32 0b00010010_00000000_00000000_00000000 = some .sends := by decide
theorem test_decode_sendeoi : decodeTableWord 32 0b00010011_00001101_00000000_00000000 = some (.sendeoi 0x0D) := by decide
theorem test_decode_sendfnf : decodeTableWord 32 0b00010100_00000000_00000000_00000000 = some .sendfnf := by decide
theorem test_decode_recv : decodeTableWord 32 0b00010101_00001000_00000001_00000000 = some (.recv 8 true) := by decide
theorem test_decode_isen : decodeTableWord 32 0b00010110_00001000_00000000_00000000 = some (.isen 8) := by decide
theorem test_decode_en : decodeTableWord 32 0b00010111_00001000_00000000_00000000 = some (.en 8) := by decide
theorem test_decode_dis : decodeTableWord 32 0b00011000_00001000_00000000_00000000 = some (.dis 8) := by decide
theorem test_decode_rell : decodeTableWord 32 0b00011001_00000000_00000001_00000000 = some (.rell true) := by decide
theorem test_decode_turnaround : decodeTableWord 32 0b00100000_00000000_00000000_00000000 = some .turnaround := by decide
theorem test_decode_undo : decodeTableWord 32 0b00100001_00000000_00000000_00000000 = some .undoTurnaround := by decide

/-- The rejections of V-O2, each by its reason (R108). -/
theorem test_decode_rejects_by_name :
    decodeOp 0x00000000 = .error .badSelector ∧ decodeOp 0x22000000 = .error .badSelector ∧
    decodeOp 0x10000001 = .error .reservedBits ∧ decodeOp 0x10010000 = .error .operandA ∧
    decodeOp 0x11410100 = .error .operandB ∧ decodeOp 0x03050000 = .error .badLine ∧
    decodeOp 0x03000200 = .error .badMode ∧ decodeOp 0x06410200 = .error .badBool := by
  refine ⟨?_, ?_, ?_, ?_, ?_, ?_, ?_, ?_⟩ <;> rfl

theorem test_decode_unlisten : decodeTableWord 8 0b0011_1111 = some .atnUnlisten := by decide
theorem test_decode_untalk : decodeTableWord 8 0b0101_1111 = some .atnUntalk := by decide
theorem test_decode_global : decodeTableWord 8 0b0000_1000 = some (.atnGlobal 8) := by decide
theorem test_decode_listen : decodeTableWord 8 0b0010_1111 = some (.atnListen 15) := by decide
theorem test_decode_talk : decodeTableWord 8 0b0100_1000 = some (.atnTalk 8) := by decide
theorem test_decode_second : decodeTableWord 8 0b0110_1111 = some (.atnSecond 15) := by decide
theorem test_decode_close : decodeTableWord 8 0b1110_0010 = some (.atnClose 2) := by decide
theorem test_decode_open : decodeTableWord 8 0b1111_0001 = some (.atnOpen 1) := by decide
theorem test_decode_none1 : decodeTableWord 8 0b0001_1111 = some (.atnNone1 15) := by decide
theorem test_decode_none3 : decodeTableWord 8 0b0011_1110 = some (.atnNone3 14) := by decide
theorem test_decode_none5 : decodeTableWord 8 0b0101_1110 = some (.atnNone5 14) := by decide
theorem test_decode_none7 : decodeTableWord 8 0b0111_0000 = some (.atnNone7 0) := by decide
theorem test_decode_none8 : decodeTableWord 8 0b1010_0000 = some (.atnNone8 0x20) := by decide
theorem test_decode_noneC : decodeTableWord 8 0b1101_1111 = some (.atnNoneC 0x1F) := by decide

/-! ### Small states -/

/-- CMD_MAX 4, device 8 enabled, the other parameters at their defaults (R11). -/
def tp : Params := ⟨3, BitVec.allOnes 15, .UNBOUNDED, false, 0x100#31, .T⟩

/-- S0 of 95_test_vectors.md with device 8 enabled. -/
def s0 : State := .construct tp .released

/-- Inside an operation, at step `c`, in listener posture. -/
def inside (c : Ctl) : State := { s0 with ctl := c, busy := true, lines := { UnitLines.idle with data := .pulled } }

/-- The caller in the TALK phase, in talker posture. -/
def talking : State := { s0 with phase := .TALK, lines := { UnitLines.idle with clock := .pulled } }

/-- The caller in the LISTEN phase, in listener posture. -/
def listening : State := { s0 with phase := .LISTEN, lines := { UnitLines.idle with data := .pulled } }

/-- The caller's only line is `w`. -/
def caller (w : OpWord) (s : State) : State := { s with prog := [.op w []] }

/-- SERVICE_CHECKS_RESET is true (R11). -/
def checksReset (s : State) : State := { s with params := { tp with serviceChecksReset := true } }

def answer (t : Turn) (s : State) : State := { s with script := [t] }

/-- The next state, where there is one. -/
def nextOf (o : Out) : Option State :=
  match o with
  | .next t => some t
  | .fault _ | .refused _ => none

def view {α : Type} (f : State → α) (o : Out) : Option α := (nextOf o).map f

/-! ### One step of each operation word -/

/-- V-L1 -/
theorem test_pull_data :
    view (fun t => (t.lines.data, t.level .DATA, t.flags)) (exec (.pull .DATA) { s0 with ctl := .OP_PULL .DATA, busy := true }) =
      some (⟨.OUTPUT, .PULLED⟩, .PULLED, 0x00#8) := by decide

/-- V-L8: the contract check comes before the argument check. -/
theorem test_pull_by_caller : view (·.faults) (exec (.pull .RESET) s0) = some ⟨false, true, false, false, false⟩ := by decide

/-- V-L2 -/
theorem test_rel_clock_host_still_pulls :
    view (fun t => (t.lines.clock, t.level .CLOCK))
      (exec (.rel .CLOCK) { s0 with ctl := .OP_REL .CLOCK, busy := true, host := { HostLines.released with clock := .PULLED },
                                    lines := { UnitLines.idle with clock := .pulled } }) =
      some (⟨.INPUT, .RELEASED⟩, .PULLED) := by decide

/-- V-L6, V-L9 -/
theorem test_mode_out_faults :
    view (fun t => (t.faults.contract, t.lines.data.mode)) (exec (.mode .DATA .OUTPUT) s0) = some (true, .INPUT) := by decide
theorem test_mode_reset_faults : view (·.faults.badArg) (exec (.mode .RESET .INPUT) s0) = some true := by decide

/-- V-L4, V-L3 -/
theorem test_stat_reset :
    view (·.r) (exec (.stat .RESET) { s0 with host := { HostLines.released with reset := .PULLED } }) =
      some (some (.level .PULLED)) := by decide
theorem test_stat_unit_pulls : view (·.r) (exec (.stat .DATA) listening) = some (some (.level .PULLED)) := by decide

/-- V-R3, V-R4 -/
theorem test_rxb_ff_is_no_error :
    view (fun t => (t.r, t.flags)) (exec (.rxb 0) (answer (.hTalk (.ok 0xFF false)) (inside (.OP_RXB 0)))) =
      some (some (.int16 0x00FF#16), 0x00#8) := by decide
theorem test_rxb_failure :
    view (fun t => (t.r, t.flags)) (exec (.rxb 0) (answer (.hTalk .fail) (inside (.OP_RXB 0)))) =
      some (some (.int16 0xFFFF#16), 0x01#8) := by decide

/-- V-R8, V-R9 -/
theorem test_txb_last_sets_eoi :
    view (fun t => (t.r, t.flags, t.lines.clock, t.lines.data))
      (exec (.txb 0x0D true) (answer (.hListen .ack) (inside (.OP_TXB 0x0D true)))) =
      some (some (.bool true), 0x02#8, ⟨.OUTPUT, .PULLED⟩, ⟨.INPUT, .RELEASED⟩) := by decide
theorem test_txb_failure :
    view (fun t => (t.r, t.flags)) (exec (.txb 0x41 false) (answer (.hListen .fail) (inside (.OP_TXB 0x41 false)))) =
      some (some (.bool false), 0x01#8) := by decide

/-- V-S28: the third entry step. -/
theorem test_service_init_clears :
    view (fun t => (t.flags, t.phase, t.ctl)) (exec .service { inside .SV_INIT with flags := 0x01#8, phase := .TALK }) =
      some (0x00#8, .NONE, .SV_PRIMARY) := by decide

/-- V-S26; with the parameter false RESET is not read (R173). -/
theorem test_service_reset_check :
    view (·.ctl) (exec .service (checksReset { inside .SV_RESET_CHECK with host := { HostLines.released with reset := .PULLED } })) =
      some (.RL_CLK (.exit .RESET)) := by decide
theorem test_service_reset_unchecked :
    view (·.ctl) (exec .service { inside .SV_RESET_CHECK with host := { HostLines.released with reset := .PULLED } }) =
      some .SV_PRIMARY := by decide

/-- V-B1, V-B3 -/
theorem test_send_ack :
    view (fun t => (t.r, t.phase)) (exec (.send 0x41) (answer (.hListen .ack) talking)) = some (some (.bool true), .TALK) := by decide
theorem test_send_sticky : view (·.faults.stickyError) (exec (.send 0x42) { talking with flags := 0x01#8 }) = some true := by decide

/-- V-B6b -/
theorem test_sends_empty_ignores_error :
    view (fun t => (t.r, t.flags)) (exec .sends { caller 0x12000000 talking with flags := 0x01#8 }) =
      some (some (.bool true), 0x01#8) := by decide

/-- V-B5, its first byte. -/
theorem test_sends_goes_on :
    view (·.ctl) (exec .sends { answer (.hListen .ack) talking with prog := [.op 0x12000000 [0x41#8, 0x42#8]] }) =
      some (.OP_SENDS 1) := by decide

/-- V-B8, V-B9 -/
theorem test_sendeoi_failure :
    view (fun t => (t.r, t.flags, t.phase)) (exec (.sendeoi 0x0D) (answer (.hListen .fail) talking)) =
      some (some (.bool false), 0x01#8, .TALK_DONE) := by decide
theorem test_sendeoi_after_done :
    view (·.faults.contract) (exec (.sendeoi 0x0D) { talking with phase := .TALK_DONE }) = some true := by decide

/-- V-B10a -/
theorem test_sendfnf_ignores_error :
    view (fun t => (t.faults, t.lines.data, t.ctl)) (exec .sendfnf { talking with flags := 0x01#8 }) =
      some (.empty, ⟨.INPUT, .RELEASED⟩, .FNF_REL_CLK) := by decide

/-- V-B12, V-B16 -/
theorem test_recv_eoi :
    view (fun t => (t.r, t.flags)) (exec (.recv 0 false) (answer (.hTalk (.ok 0x42 true)) listening)) =
      some (some (.int16 0x0042#16), 0x02#8) := by decide
theorem test_recv_in_command : view (·.faults.contract) (exec (.recv 0 false) { listening with phase := .COMMAND }) = some true := by
  decide

/-- V-D2, V-D9 -/
theorem test_isen_enabled : view (·.r) (exec (.isen 8) s0) = some (some (.bool true)) := by decide
theorem test_isen_255 : view (·.faults.badArg) (exec (.isen 255) s0) = some true := by decide

/-- V-D4, V-D8 -/
theorem test_en_30 : view (·.enabled) (exec (.en 30) { s0 with enabled := 0x00000001#31 }) = some 0x40000001#31 := by decide
theorem test_en_31 : view (·.faults.badArg) (exec (.en 31) s0) = some true := by decide

/-- V-D5 -/
theorem test_dis_3 : view (·.enabled) (exec (.dis 3) { s0 with enabled := 0x00000028#31 }) = some 0x00000020#31 := by decide

/-- V-RL2: at RL_WAIT the unit holds while the host pulls ATN. -/
theorem test_rell_holds :
    view (·.ctl) (exec (.rell true) { inside (.RL_WAIT true) with host := { HostLines.released with atn := .PULLED } }) =
      some (.RL_WAIT true) := by decide

/-- V-RL1: CLOCK first. -/
theorem test_rell_first_step :
    view (fun t => (t.lines.clock, t.ctl)) (exec (.rell false) talking) = some (⟨.INPUT, .RELEASED⟩, .RL_DATA (.lines false)) := by
  decide

/-- V-T2: the hold writes nothing; V-S29: the timeout under BOUNDED. -/
theorem test_turnaround_holds :
    exec .turnaround { inside .TA_WAIT with host := { HostLines.released with clock := .PULLED } } =
      .next { inside .TA_WAIT with host := { HostLines.released with clock := .PULLED } } := by rfl
theorem test_turnaround_timeout :
    view (fun t => (t.flags, t.ctl)) (exec .turnaround (answer .timeout { inside .TA_WAIT with
      host := { HostLines.released with clock := .PULLED }, params := { tp with spinPolicy := .BOUNDED } })) =
      some (0x01#8, .RL_CLK (.exit .ERROR)) := by decide

/-- V-T6 -/
theorem test_undo_timeout :
    view (fun t => (t.flags, t.r, t.phase)) (exec .undoTurnaround (answer .timeout { inside .UT_WAIT with
      host := { HostLines.released with clock := .PULLED }, params := { tp with spinPolicy := .BOUNDED }, flags := 0x02#8
      phase := .TALK })) =
      some (0x03#8, some (.bool false), .TALK_DONE) := by decide

/-! ### ATN codes: V-S6 to V-S10 as primary bytes, V-E3 as secondary bytes -/

theorem test_primary_unlisten :
    view (fun t => (t.data.command, t.ctl)) (exec .atnUnlisten (inside (.SV_DECODE1 0x3F))) =
      some (some .UNLISTEN, .RL_CLK (.exit .IDLE)) := by decide
theorem test_primary_untalk :
    view (fun t => (t.data.command, t.ctl)) (exec .atnUntalk (inside (.SV_DECODE1 0x5F))) =
      some (some .UNTALK, .RL_CLK (.exit .IDLE)) := by decide
theorem test_primary_global :
    view (fun t => (t.data.device, t.data.channel, t.ctl)) (exec (.atnGlobal 8) (inside (.SV_DECODE1 0x08))) =
      some (some 8, none, .SV_GATE) := by decide
theorem test_primary_listen :
    view (fun t => (t.data.device, t.data.command)) (exec (.atnListen 15) (inside (.SV_DECODE1 0x2F))) =
      some (some 15, some .LISTEN) := by decide
theorem test_primary_talk :
    view (fun t => (t.data.device, t.data.command)) (exec (.atnTalk 8) (inside (.SV_DECODE1 0x48))) =
      some (some 8, some .TALK) := by decide
theorem test_primary_second :
    view (fun t => (t.data.device, t.data.channel)) (exec (.atnSecond 8) (inside (.SV_DECODE1 0x68))) = some (none, some 8) := by
  decide
theorem test_secondary_close :
    view (fun t => (t.data.command, t.data.channel, t.data.content)) (exec (.atnClose 2) (inside .SV_SECONDARY)) =
      some (some .CLOSE, some 2, some []) := by decide
theorem test_secondary_open :
    view (fun t => (t.data.command, t.data.channel)) (exec (.atnOpen 1) (inside .SV_SECONDARY)) = some (some .OPEN, some 1) := by
  decide
theorem test_primary_none1 :
    view (fun t => (t.data.command, t.ctl)) (exec (.atnNone1 0) (inside (.SV_DECODE1 0x10))) = some (some .NONE, .SV_GATE) := by
  decide
theorem test_primary_none3 :
    view (fun t => (t.data.command, t.data.device)) (exec (.atnNone3 8) (inside (.SV_DECODE1 0x38))) = some (some .NONE, none) := by
  decide
theorem test_secondary_none5 :
    view (fun t => (t.data.command, t.data.channel)) (exec (.atnNone5 14) (inside .SV_SECONDARY)) = some (some .NONE, some 14) := by
  decide
theorem test_secondary_none7 :
    view (fun t => (t.data.command, t.data.channel)) (exec (.atnNone7 0) (inside .SV_SECONDARY)) = some (some .NONE, some 0) := by
  decide
theorem test_secondary_none8 :
    view (fun t => (t.data.command, t.data.channel)) (exec (.atnNone8 0x18) (inside .SV_SECONDARY)) = some (some .NONE, some 8) := by
  decide
theorem test_secondary_noneC :
    view (fun t => (t.data.command, t.data.channel)) (exec (.atnNoneC 0x05) (inside .SV_SECONDARY)) = some (some .NONE, some 5) := by
  decide

/-- V-A5: the overflow check comes before the pad is considered (R206). -/
theorem test_overflow_by_pad :
    view (fun t => (t.flags, t.ctl)) (exec (.rxb 8) (answer (.hTalk (.ok 0xA0 false)) { inside .SV_ACC_RX with
      data := ⟨some 8, some .OPEN, some 0, some [0x41#8, 0x42#8, 0x43#8, 0x44#8], false⟩ })) =
      some (0x01#8, .RL_CLK (.exit .ERROR)) := by decide

/-! ### The host's two questions: a placed word is the next instruction run -/

theorem test_withFetchWord_byte : view (·.data.device) (step (s0.withFetchWord 8 0x28)) = some (some 8) := by decide

theorem test_withFetchWord_word : view (·.ctl) (step (s0.withFetchWord 32 0x10000000)) = some .SV_ENTRY_DATA := by decide

/-! ### Witnesses: a state and operands that meet the hypotheses of each statement, clause by clause -/

/-- Inside a command string, with one byte captured. -/
def capturing : State := { inside .SV_ACC_RX with data := ⟨some 8, some .SECOND, some 15, some [0x55#8], false⟩ }

/-- At a receive or a send at level L. -/
def receivingL (k : Shake) : State := { inside (.OP_RECV 0) with params := { tp with byteLevel := .L }, phase := .LISTEN, shake := k }
def sendingL (k : Shake) : State :=
  { talking with ctl := .OP_SEND 0x41, busy := true, params := { tp with byteLevel := .L }, shake := k }

/-- Inside an operation of the data phase, in talker posture. -/
def talkingAt (c : Ctl) : State := { talking with ctl := c, busy := true }

def hostPulls (l : Line) (s : State) : State := s.hostSet l .PULLED

def bounded (s : State) : State := { s with params := { tp with spinPolicy := .BOUNDED } }

theorem witness_StepRunsTheCallersWord :
    (caller 0x04000000 s0).faults = .empty ∧ (caller 0x04000000 s0).ctl = .READY ∧
    (caller 0x04000000 s0).prog[(caller 0x04000000 s0).pc]? = some (.op 0x04000000 []) ∧ decodeOp 0x04000000 = .ok (.stat .ATN) ∧
    (caller 0x04000000 s0).script = [] ∧
    (answer (.hTalk .fail) (caller 0x04000000 s0)).script = .hTalk .fail :: [] ∧
    (answer (.hListen .ack) (caller 0x04000000 s0)).script = .hListen .ack :: [] ∧
    (answer .timeout (caller 0x04000000 s0)).script = .timeout :: [] ∧
    (answer .unit (caller 0x04000000 s0)).script = .unit :: [] := ⟨rfl, rfl, rfl, rfl, rfl, rfl, rfl, rfl, rfl⟩

theorem witness_StepRunsTheProceduresStep :
    (inside .TA_D1).faults = .empty ∧ (inside .TA_D1).ctl ≠ .READY ∧ (inside .TA_D1).unitOp = some .turnaround ∧
    (inside .TA_D1).script = [] ∧ (answer .timeout (inside .TA_D1)).script = .timeout :: [] ∧
    (answer .unit (inside .TA_D1)).script = .unit :: [] := by decide

theorem witness_InvalidWordRecordsBadOp :
    decodeOp 0x07000000 = .error .badSelector ∧
    ((caller 0x07000000 s0).faults = .empty ∧ (caller 0x07000000 s0).ctl = .READY ∧
      (caller 0x07000000 s0).prog[(caller 0x07000000 s0).pc]? = some (.op 0x07000000 []) ∧ (caller 0x07000000 s0).script = []) ∧
    (answer .unit (caller 0x07000000 s0)).script = .unit :: [] ∧
    ((answer (.intrude 0x07000000) (inside .TA_D1)).faults = .empty ∧ (answer (.intrude 0x07000000) (inside .TA_D1)).busy = true ∧
      (answer (.intrude 0x07000000) (inside .TA_D1)).script = .intrude 0x07000000 :: []) :=
  ⟨rfl, ⟨rfl, rfl, rfl, rfl⟩, rfl, rfl, rfl, rfl⟩

theorem witness_DecodeOfEncodeIsIdentity : (Instr.atnNone3 0xE).wf = true ∧ (Instr.rell true).wf = true := by decide

theorem witness_EncodeOfDecodeIsIdentity : decodeOp 0x19000100 = .ok (.rell true) := by rfl

theorem witness_AtnDecodeFollowsTheTable :
    atnCmd 0x0F = .GLOBAL ∧ atnCmd 0x20 = .LISTEN ∧ atnCmd 0x4F = .TALK ∧ atnCmd 0x60 = .SECOND ∧ atnCmd 0xEF = .CLOSE ∧
    atnCmd 0xFF = .OPEN := by decide

theorem witness_PullMakesTheLinePulled :
    (inside .SV_ENTRY_DATA).unitOp = some (.pull .DATA) ∧
    (lineDrivable .SRQ = some .SRQ ∧ (inside (.OP_PULL .SRQ)).ctl = .OP_PULL .SRQ) ∧
    (inside (.OP_PULL .RESET)).ctl = .OP_PULL .RESET ∧ (inside .SV_ENTRY_DATA).ctl = .SV_ENTRY_DATA ∧
    (inside .TA_PULL_CLK).ctl = .TA_PULL_CLK := by decide

theorem witness_ReleaseLetsTheLineFloat :
    (inside (.RL_SRQ (.lines true))).unitOp = some (.rel .SRQ) ∧
    (lineDrivable .ATN = some .ATN ∧ (inside (.OP_REL .ATN)).ctl = .OP_REL .ATN) ∧
    (inside (.OP_REL .RESET)).ctl = .OP_REL .RESET := by decide

/-- The caller is ready, in phase NONE: the hypotheses of CallerIssueOfInternalOperationFaults, StatusReturnsTheWiredOrLevel,
ServiceStartsByReleasingClock and the first clause of ReleaseLinesReturnsTheBusToIdle. -/
theorem witness_ready : s0.ctl = .READY ∧ s0.busy = false ∧ s0.phase = .NONE ∧ s0.error = false ∧ s0.params.byteLevel = .T := by decide

theorem witness_ModeWritesTheModeAlone :
    (s0.ctl = .READY ∧ s0.busy = false ∧ s0.phase = .NONE ∧ lineDrivable .SRQ = some .SRQ ∧
      ¬ (PinMode.INPUT = .OUTPUT ∧ (s0.lines.get .SRQ).drive = .RELEASED)) ∧
    (({ s0 with lines := { UnitLines.idle with data := ⟨.INPUT, .PULLED⟩ } } : State).phase = .NONE ∧
      ¬ (PinMode.OUTPUT = .OUTPUT ∧
        (({ s0 with lines := { UnitLines.idle with data := ⟨.INPUT, .PULLED⟩ } } : State).lines.get .DATA).drive = .RELEASED)) := by
  decide

theorem witness_ModeFaultsOutsideTheContract :
    (talking.ctl = .READY ∧ talking.busy = false ∧ talking.phase ≠ .NONE) ∧
    (s0.phase = .NONE ∧ lineDrivable .DATA = some .DATA ∧ (s0.lines.get .DATA).drive = .RELEASED) := by decide

theorem witness_ReceiveByteReturnsTheByteOrError :
    ((inside (.OP_RXB 9)).ctl = .OP_RXB 9 ∧ (inside (.OP_RXB 9)).params.byteLevel = .T ∧ (inside (.OP_RXB 9)).error = false) ∧
    (answer (.hTalk (.ok 0xFF true)) (inside (.OP_RXB 9))).script = .hTalk (.ok 0xFF true) :: [] ∧
    (answer (.hTalk .fail) (inside (.OP_RXB 9))).script = .hTalk .fail :: [] := by decide

theorem witness_SendByteReturnsWhetherAcknowledged :
    ((inside (.OP_TXB 0xFF true)).ctl = .OP_TXB 0xFF true ∧ (inside (.OP_TXB 0xFF true)).params.byteLevel = .T ∧
      (inside (.OP_TXB 0xFF true)).error = false) ∧
    (answer (.hListen .ack) (inside (.OP_TXB 0xFF true))).script = .hListen .ack :: [] ∧
    (answer (.hListen .fail) (inside (.OP_TXB 0xFF true))).script = .hListen .fail :: [] := by decide

theorem witness_StickyErrorFaultsByteOperations :
    (({ inside .SV_PRIMARY with flags := 0x01#8 } : State).error = true ∧ (inside .SV_PRIMARY).shake = .idle ∧
      (inside .SV_PRIMARY).unitOp = some (.rxb 0)) ∧
    ((inside (.OP_SEND 0x41)).unitOp = some (.txb 0x41 false)) ∧
    (({ talking with flags := 0x01#8 } : State).error = true ∧ talking.ctl = .READY ∧ talking.busy = false ∧ talking.phase = .TALK) ∧
    ({ talking with prog := [.op 0x12000000 [0x41#8]] } : State).callerString ≠ [] ∧
    (({ listening with flags := 0x01#8 } : State).error = true ∧ listening.phase = .LISTEN) := by decide

theorem witness_ServiceEntryTakesListenerPosture :
    (caller 0x10000000 talking).unitAlone ∧ (caller 0x10000000 talking).ctl = .READY ∧ (caller 0x10000000 talking).busy = false ∧
    (caller 0x10000000 talking).prog[(caller 0x10000000 talking).pc]? = some (.op 0x10000000#32 []) := ⟨⟨rfl, rfl⟩, rfl, rfl, rfl⟩

theorem witness_ResetCheckSamplesResetOnce :
    (inside .SV_RESET_CHECK).ctl = .SV_RESET_CHECK ∧
    ((checksReset (inside .SV_RESET_CHECK)).params.serviceChecksReset = true ∧
      (hostPulls .RESET (checksReset (inside .SV_RESET_CHECK))).host.reset = .PULLED) ∧
    (hostPulls .RESET (inside .SV_RESET_CHECK)).params.serviceChecksReset = false ∧
    (checksReset (inside .SV_RESET_CHECK)).host.reset = .RELEASED := by decide

theorem witness_PrimaryReceiveTakesOneByteOrEndsWithError :
    ((inside .SV_PRIMARY).ctl = .SV_PRIMARY ∧ (inside .SV_PRIMARY).params.byteLevel = .T ∧ (inside .SV_PRIMARY).error = false) ∧
    (answer (.hTalk (.ok 0x3F true)) (inside .SV_PRIMARY)).script = .hTalk (.ok 0x3F true) :: [] ∧
    ((answer (.hTalk .fail) (inside .SV_PRIMARY)).faults = .empty ∧
      (answer (.hTalk .fail) (inside .SV_PRIMARY)).script = [.hTalk .fail]) := by decide

theorem witness_PrimaryCodeWritesItsFields :
    (inside (.SV_DECODE1 0xFF)).ctl = .SV_DECODE1 0xFF ∧ (Instr.atnNone3 0xE).wf = true ∧ (Instr.atnNone7 0xF).wf = true := by decide

/-- Each arm of the gate: LISTEN of an enabled device, TALK of one, a disabled device (31 is no bit of the set, so never enabled), a code
that is neither. -/
theorem witness_GatePassesEnabledListenAndTalk :
    ((inside .SV_GATE).ctl = .SV_GATE) ∧
    (({ inside .SV_GATE with data := ⟨some 8, some .LISTEN, none, none, false⟩ } : State).data.command = some .LISTEN ∧
      (inside .SV_GATE).enabled.getLsbD (8#5).toNat = true) ∧
    (({ inside .SV_GATE with data := ⟨some 8, some .TALK, none, none, false⟩ } : State).data.command = some .TALK) ∧
    ((inside .SV_GATE).enabled.getLsbD (15#5).toNat = false ∧ (inside .SV_GATE).enabled.getLsbD (31#5).toNat = false) ∧
    (({ inside .SV_GATE with data := ⟨none, some .SECOND, some 8, none, false⟩ } : State).data.command = some .SECOND) := by decide

theorem witness_SecondaryCodeWritesCommandAndChannel :
    ((inside .SV_SECONDARY).ctl = .SV_SECONDARY) ∧
    (({ answer (.hTalk (.ok 0x6F true)) (inside .SV_SECONDARY) with data := ⟨some 15, some .TALK, none, none, false⟩ } :
        State).data.device = some 15 ∧
      (answer (.hTalk (.ok 0x6F true)) (inside .SV_SECONDARY)).params.byteLevel = .T ∧
      (answer (.hTalk (.ok 0x6F true)) (inside .SV_SECONDARY)).error = false ∧
      (answer (.hTalk (.ok 0x6F true)) (inside .SV_SECONDARY)).script = .hTalk (.ok 0x6F true) :: []) := by decide

theorem witness_DispatchFollowsThePrimary :
    (inside .SV_DISPATCH).ctl = .SV_DISPATCH ∧ ({ inside .SV_DISPATCH with prim := some .TALK } : State).prim = some .TALK ∧
    ({ inside .SV_DISPATCH with prim := some .LISTEN } : State).prim = some .LISTEN := by decide

/-- Channels 14 and 15 are the two sides of the command channel. -/
theorem witness_ListenArmsFollowTheSecondary :
    (inside .SV_LISTEN).ctl = .SV_LISTEN ∧
    (({ inside .SV_LISTEN with data := ⟨some 8, some .SECOND, some 14, some [], false⟩ } : State).data.channel = some 14#4 ∧
      14#4 ≠ 15#4) ∧
    (({ inside .SV_LISTEN with data := ⟨some 8, some .SECOND, some 15, some [], false⟩ } : State).data.channel = some 15#4) ∧
    (({ inside .SV_LISTEN with data := ⟨some 8, some .OPEN, some 1, some [], false⟩ } : State).data.command = some .OPEN) ∧
    (({ inside .SV_LISTEN with data := ⟨some 8, some .CLOSE, some 2, some [], false⟩ } : State).data.command = some .CLOSE) ∧
    (({ inside .SV_LISTEN with data := ⟨some 8, some .TALK, some 8, some [], false⟩ } : State).data.command = some .TALK ∧
      Cmd.TALK ≠ .SECOND ∧ Cmd.TALK ≠ .OPEN ∧ Cmd.TALK ≠ .CLOSE) := by decide

theorem witness_AccumulationSamplesAtnFirst :
    (inside .SV_ACC_ATN).ctl = .SV_ACC_ATN ∧ (hostPulls .ATN (inside .SV_ACC_ATN)).level .ATN = .PULLED ∧
    (inside .SV_ACC_ATN).level .ATN = .RELEASED := by decide

/-- CMD_MAX is 4: the third byte fits, and so does the fourth, and the fifth overflows. -/
theorem witness_StringByteEndsSkipsOverflowsOrAppends :
    (capturing.ctl = .SV_ACC_RX ∧ capturing.data.device = some 8#5 ∧ capturing.data.content = some [0x55#8] ∧
      capturing.params.byteLevel = .T ∧ capturing.error = false) ∧
    (answer (.hTalk (.ok 0x3F true)) capturing).script = .hTalk (.ok 0x3F true) :: [] ∧
    (answer (.hTalk (.ok 0x0D false)) capturing).script = .hTalk (.ok 0x0D false) :: [] ∧
    ([0x41#8, 0x42#8, 0x43#8, 0x44#8].length = capturing.params.cmdMax ∧ 0xA0#8 ≠ 0x3F#8 ∧ 0xA0#8 ≠ 0x0D#8) ∧
    ([0x41#8, 0x42#8, 0x43#8].length ≠ capturing.params.cmdMax) := by decide

theorem witness_FailedReceiveInServiceExitsWithError :
    ((inside .SV_PRIMARY).ctl = .SV_PRIMARY ∧ (inside .SV_PRIMARY).unitOp = some (.rxb 0)) ∧
    (({ capturing with ctl := .SV_SECONDARY } : State).unitOp = some (.rxb 8)) ∧
    (capturing.ctl = .SV_ACC_RX ∧ capturing.unitOp = some (.rxb 8)) ∧
    ((answer (.hTalk .fail) capturing).params.byteLevel = .T ∧ (answer (.hTalk .fail) capturing).error = false ∧
      (answer (.hTalk .fail) capturing).script = .hTalk .fail :: []) := by decide

theorem witness_EndOfStringTrimsOnePad :
    ({ capturing with ctl := .SV_ACC_END } : State).ctl = .SV_ACC_END ∧
    ([0x41#8, 0xA0#8, 0xA0#8] = [0x41#8, 0xA0#8] ++ [0xA0#8] ∧ [0x41#8, 0xA0#8] ≠ []) ∧
    ([0x41#8, 0x42#8] = [0x41#8] ++ [0x42#8] ∧ 0x42#8 ≠ 0xA0#8) := by decide

theorem witness_SilentExitReleasesEveryLine :
    (inside (.RL_CLK (.exit .ERROR))).unitAlone ∧ (inside (.RL_CLK (.exit .ERROR))).ctl = .RL_CLK (.exit .ERROR) := ⟨⟨rfl, rfl⟩, rfl⟩

/-- Four bytes fill CMD_MAX, with a pad; and a string without a pad. -/
theorem witness_CommandStringIsCaptured :
    (∃ s : State, s.ctl = .SV_ACC_ATN ∧ s.faults = .empty ∧ s.error = false ∧ s.params.byteLevel = .T ∧ s.level .ATN = .RELEASED ∧
      s.data.device = some 8 ∧ s.data.content = some [] ∧
      0x3F#8 ∉ [0x41#8, 0x0D#8, 0x42#8, 0x43#8, 0xA0#8] ∧
      ([0x41#8, 0x0D#8, 0x42#8, 0x43#8, 0xA0#8].filter (· != 0x0D#8)).length = s.params.cmdMax ∧
      s.script = [0x41#8, 0x0D#8, 0x42#8, 0x43#8, 0xA0#8].map (fun c => Turn.hTalk (.ok c false)) ++ [.hTalk (.ok 0x3F#8 false)] ∧
      [0x41#8, 0x0D#8, 0x42#8, 0x43#8, 0xA0#8].filter (· != 0x0D#8) = [0x41#8, 0x42#8, 0x43#8] ++ [0xA0#8]) ∧
    ([0x00#8, 0xFF#8].filter (· != 0x0D#8) = [0x00#8, 0xFF#8] ∧ [0x00#8, 0xFF#8].getLast? ≠ some 0xA0#8) :=
  ⟨⟨{ inside .SV_ACC_ATN with
      data := ⟨some 8, some .SECOND, some 15, some [], false⟩
      script := [0x41#8, 0x0D#8, 0x42#8, 0x43#8, 0xA0#8].map (fun c => Turn.hTalk (.ok c false)) ++ [.hTalk (.ok 0x3F#8 false)] },
    by decide⟩, by decide⟩

theorem witness_TurnaroundEndsInTalkerPosture :
    ((inside .SV_TA).unitAlone ∧ (inside .SV_TA).ctl = .SV_TA ∧ (inside .SV_TA).level .CLOCK = .RELEASED) ∧
    ((inside .TA_WAIT).ctl = .TA_WAIT ∧ (hostPulls .CLOCK (inside .TA_WAIT)).script = [] ∧
      (hostPulls .CLOCK (inside .TA_WAIT)).level .CLOCK = .PULLED) ∧
    ((answer (.hSet .CLOCK .RELEASED) (hostPulls .CLOCK (inside .TA_WAIT))).faults = .empty ∧
      (answer (.hSet .CLOCK .RELEASED) (hostPulls .CLOCK (inside .TA_WAIT))).script = [.hSet .CLOCK .RELEASED] ∧
      (hostPulls .CLOCK (inside .TA_WAIT)).lines.clock = ⟨.INPUT, .RELEASED⟩) := ⟨⟨⟨rfl, rfl⟩, rfl, rfl⟩, by decide⟩

theorem witness_UndoTurnaroundEndsInListenerPosture :
    ((talkingAt .UT_PULL_DATA).unitAlone ∧ (talkingAt .UT_PULL_DATA).ctl = .UT_PULL_DATA ∧
      (talkingAt .UT_PULL_DATA).host.clock = .RELEASED) ∧
    ((inside .UT_WAIT).ctl = .UT_WAIT ∧ (inside .UT_WAIT).level .CLOCK = .RELEASED ∧
      (hostPulls .CLOCK (inside .UT_WAIT)).script = [] ∧ (hostPulls .CLOCK (inside .UT_WAIT)).level .CLOCK = .PULLED) ∧
    ((answer (.hSet .CLOCK .RELEASED) (hostPulls .CLOCK (inside .UT_WAIT))).faults = .empty ∧
      (answer (.hSet .CLOCK .RELEASED) (hostPulls .CLOCK (inside .UT_WAIT))).script = [.hSet .CLOCK .RELEASED] ∧
      (hostPulls .CLOCK (inside .UT_WAIT)).lines.clock = ⟨.INPUT, .RELEASED⟩) := ⟨⟨⟨rfl, rfl⟩, rfl, rfl⟩, by decide⟩

/-- A state of a run inside an operation has the invariant. -/
theorem witness_Inv : capturing.Inv := by
  constructor <;>
    simp [capturing, inside, s0, State.construct, UnitLines.idle, LineReg.legal, Ctl.transient, phaseInside, releasedSoFar, exitIsIdle,
      writtenBefore, shakeInPlace, DataRec.written, Params.cmdMax, tp]

/-- A state at which the unit holds, and one at which it does not. -/
theorem witness_UnitHoldsExactlyAtTheHoldPoints :
    (capturing.Inv ∧ capturing.unitAlone ∧ capturing.ctl ≠ .READY ∧ capturing.params.byteLevel = .T) ∧
    (capturing.unitOp = some (.rxb 8) ∧ capturing.error = false) ∧
    (({ capturing with ctl := .SV_ACC_ATN } : State).Inv) :=
  ⟨⟨witness_Inv, ⟨rfl, rfl⟩, by decide, rfl⟩, by decide, by
    constructor <;>
      simp [capturing, inside, s0, State.construct, UnitLines.idle, LineReg.legal, Ctl.transient, phaseInside, releasedSoFar, exitIsIdle,
        writtenBefore, shakeInPlace, DataRec.written, Params.cmdMax, tp]⟩

theorem witness_BoundedWaitTimeoutSetsError :
    ((bounded (inside .TA_WAIT)).faults = .empty ∧ (bounded (inside .TA_WAIT)).params.spinPolicy = .BOUNDED ∧
      (answer .timeout (bounded (inside .TA_WAIT))).script = .timeout :: []) ∧
    ((inside .TA_WAIT).params.spinPolicy = .UNBOUNDED ∧ (answer .timeout (inside .TA_WAIT)).script = .timeout :: []) ∧
    (hostPulls .CLOCK (inside .SV_TA)).level .CLOCK = .PULLED ∧
    (hostPulls .CLOCK (inside .TA_WAIT)).level .CLOCK = .PULLED ∧ (hostPulls .CLOCK (inside .UT_WAIT)).level .CLOCK = .PULLED ∧
    (hostPulls .ATN (inside (.RL_WAIT true))).level .ATN = .PULLED := by decide

theorem witness_SendReturnsWhetherAcknowledged :
    (talking.ctl = .READY ∧ talking.busy = false ∧ talking.phase = .TALK ∧ talking.params.byteLevel = .T ∧ talking.error = false) ∧
    ((talkingAt (.OP_SEND 0x41)).ctl = .OP_SEND 0x41 ∧ (talkingAt (.OP_SEND 0x41)).busy = true ∧
      (talkingAt (.OP_SEND 0x41)).params.byteLevel = .T ∧ (talkingAt (.OP_SEND 0x41)).error = false) ∧
    (answer (.hListen .ack) talking).script = .hListen .ack :: [] ∧
    (answer (.hListen .fail) (talkingAt (.OP_SEND 0x41))).script = .hListen .fail :: [] ∧
    (∀ a rest, (talkingAt (.OP_SEND 0x41)).script ≠ .hListen a :: rest) := ⟨by decide, by decide, rfl, rfl, by intro a rest h; cases h⟩

/-- A string of two bytes: acknowledged whole, failing at its first byte and at its last. -/
theorem witness_SendStringStopsAtTheFirstFailure :
    (talking.ctl = .READY ∧ talking.busy = false ∧ talking.phase = .TALK ∧ talking.params.byteLevel = .T ∧ talking.faults = .empty ∧
      talking.error = false ∧ ∀ a rest, talking.script ≠ .hListen a :: rest) ∧
    (({ talking with prog := [.op 0x12000000 [0x41#8, 0x42#8]] } : State).prog[talking.pc]? =
      some (.op 0x12000000#32 [0x41#8, 0x42#8])) ∧
    (0 < 1 ∧ 1 < [0x41#8, 0x42#8].length ∧ [Turn.hListen .ack] = List.replicate 1 (Turn.hListen .ack) ++ []) ∧
    (({ talking with script := [.hListen .ack, .hListen .ack] } : State).script =
      List.replicate [0x41#8, 0x42#8].length (Turn.hListen .ack) ++ []) ∧
    (0 < [0x41#8, 0x42#8].length ∧ [Turn.hListen .fail] = List.replicate 0 (Turn.hListen .ack) ++ .hListen .fail :: []) ∧
    (1 < [0x41#8, 0x42#8].length ∧
      [Turn.hListen .ack, .hListen .fail] = List.replicate 1 (Turn.hListen .ack) ++ .hListen .fail :: []) ∧
    ((talkingAt (.OP_SENDS 0)).ctl = .OP_SENDS 0 ∧ [0x41#8, 0x42#8][0]? = some 0x41#8 ∧ 0 + 1 < [0x41#8, 0x42#8].length) ∧
    ((talkingAt (.OP_SENDS 1)).ctl = .OP_SENDS 1 ∧ [0x41#8, 0x42#8][1]? = some 0x42#8 ∧ 1 + 1 = [0x41#8, 0x42#8].length ∧
      (answer (.hListen .fail) (talkingAt (.OP_SENDS 1))).script = .hListen .fail :: []) :=
  ⟨⟨rfl, rfl, rfl, rfl, rfl, by decide, by intro a rest h; cases h⟩, by decide⟩

theorem witness_SendEoiRunsUndoTurnaround :
    (talking.ctl = .READY ∧ talking.busy = false ∧ talking.phase = .TALK ∧ talking.params.byteLevel = .T ∧ talking.error = false ∧
      talking.faults = .empty ∧ talking.host.clock = .RELEASED) ∧
    ((talkingAt (.OP_SENDEOI 0x0D)).ctl = .OP_SENDEOI 0x0D ∧ (talkingAt (.OP_SENDEOI 0x0D)).busy = true ∧
      (talkingAt (.OP_SENDEOI 0x0D)).params.byteLevel = .T ∧ (talkingAt (.OP_SENDEOI 0x0D)).error = false) ∧
    (answer (.hListen .fail) (talkingAt (.OP_SENDEOI 0x0D))).script = .hListen .fail :: [] ∧
    (∀ a rest, (talkingAt (.OP_SENDEOI 0x0D)).script ≠ .hListen a :: rest) ∧
    (caller 0x130D0000 talking).prog[(caller 0x130D0000 talking).pc]? = some (.op 0x130D0000 []) ∧
    decodeOp 0x130D0000 = .ok (.sendeoi 0x0D) ∧ (answer (.hListen .ack) (caller 0x130D0000 talking)).script = [.hListen .ack] :=
  ⟨by decide, by decide, rfl, (by intro a rest h; cases h), rfl, rfl, rfl⟩

theorem witness_SendFnfReleasesDataAndClock :
    (talking.ctl = .READY ∧ talking.busy = false ∧ talking.phase = .TALK) ∧ (caller 0x14000000 talking).unitAlone ∧
    (caller 0x14000000 talking).prog[(caller 0x14000000 talking).pc]? = some (.op 0x14000000 []) ∧
    decodeOp 0x14000000 = .ok .sendfnf := ⟨by decide, ⟨rfl, rfl⟩, rfl, rfl⟩

theorem witness_ReceiveReturnsTheByteOrError :
    (listening.ctl = .READY ∧ listening.busy = false ∧ listening.phase = .LISTEN ∧ listening.params.byteLevel = .T ∧
      listening.error = false) ∧
    ((inside (.OP_RECV 8)).ctl = .OP_RECV 8 ∧ (inside (.OP_RECV 8)).busy = true ∧ (inside (.OP_RECV 8)).params.byteLevel = .T ∧
      (inside (.OP_RECV 8)).error = false) ∧
    (answer (.hTalk (.ok 0x3F true)) listening).script = .hTalk (.ok 0x3F true) :: [] ∧
    (answer (.hTalk .fail) (inside (.OP_RECV 8))).script = .hTalk .fail :: [] ∧
    (∀ a rest, (inside (.OP_RECV 8)).script ≠ .hTalk a :: rest) := ⟨by decide, by decide, rfl, rfl, by intro a rest h; cases h⟩

theorem witness_DataPhaseOperationsFaultOutsideTheirPhase :
    (listening.ctl = .READY ∧ listening.busy = false ∧ listening.phase ≠ .TALK) ∧
    (talking.ctl = .READY ∧ talking.busy = false ∧ talking.phase ≠ .LISTEN) := by decide

/-- Devices 0 and 30 are the ends of the range, 31 and 255 those of the faulting range: IsDeviceEnabledReadsTheBit,
EnableAndDisableWriteOneBit and DeviceAboveThirtyFaults. -/
theorem witness_device_ranges :
    (s0.ctl = .READY ∧ s0.busy = false) ∧ ((0 : Byte).toNat ≤ 30 ∧ (30 : Byte).toNat ≤ 30) ∧
    (30 < (31 : Byte).toNat ∧ 30 < (255 : Byte).toNat) := by decide

theorem witness_ReleaseLinesReturnsTheBusToIdle :
    (talking.ctl = .READY ∧ talking.busy = false) ∧ (caller 0x19000100 talking).unitAlone ∧
    (caller 0x19000100 talking).prog[(caller 0x19000100 talking).pc]? = some (.op 0x19000100 []) ∧
    decodeOp 0x19000100 = .ok (.rell true) ∧ (caller 0x19000100 talking).host.atn = .RELEASED ∧
    decodeOp 0x19000000 = .ok (.rell false) ∧
    ((inside (.RL_WAIT true)).ctl = .RL_WAIT true ∧ (inside (.RL_WAIT true)).level .ATN = .RELEASED ∧
      (inside (.RL_WAIT false)).ctl = .RL_WAIT false ∧ (hostPulls .ATN (inside (.RL_WAIT true))).script = [] ∧
      (hostPulls .ATN (inside (.RL_WAIT true))).level .ATN = .PULLED) ∧
    ((answer (.hSet .ATN .RELEASED) (hostPulls .ATN (inside (.RL_WAIT true)))).faults = .empty ∧
      (answer (.hSet .ATN .RELEASED) (hostPulls .ATN (inside (.RL_WAIT true)))).script = [.hSet .ATN .RELEASED] ∧
      (inside (.RL_WAIT true)).lines.atn = ⟨.INPUT, .RELEASED⟩) :=
  ⟨by decide, ⟨rfl, rfl⟩, rfl, rfl, rfl, rfl, by decide, by decide⟩

theorem witness_ReleaseLinesTwiceIsOnce :
    ({ talking with prog := [.op 0x19000000 [], .op 0x19000000 []] } : State).unitAlone ∧ talking.ctl = .READY ∧ talking.busy = false ∧
    ({ talking with prog := [.op 0x19000000 [], .op 0x19000000 []] } : State).prog[talking.pc]? = some (.op 0x19000000#32 []) ∧
    ({ talking with prog := [.op 0x19000000 [], .op 0x19000000 []] } : State).prog[talking.pc + 1]? = some (.op 0x19000000#32 []) :=
  ⟨⟨rfl, rfl⟩, rfl, rfl, rfl, rfl⟩

/-- The invariant holds and the step has a next state: a hold at the receive of a command string, and its ATN sample. -/
theorem witness_EveryStepKeepsTheInvariant :
    capturing.Inv ∧ step capturing = .next capturing ∧ ({ capturing with ctl := .SV_ACC_ATN } : State).ctl = .SV_ACC_ATN ∧
    step { capturing with ctl := .SV_ACC_ATN } = .next capturing := ⟨witness_Inv, rfl, rfl, rfl⟩

/-- A recorded fault, and a branch that reads the unwritten result register. -/
theorem witness_MachineStopsOnlyAfterAFaultOrAnUnwrittenResult :
    step (capturing.addFault .F_CONTRACT) = .fault .quiescent ∧
    step { s0 with prog := [.blt0 0] } = .fault .readUnwritten := ⟨rfl, rfl⟩

theorem witness_EnabledSetChangesOnlyByEnableAndDisable :
    (exec (.stat .ATN) s0 = .next { s0 with r := some (.level .RELEASED), pc := 1 } ∧
      ∀ d, Instr.stat .ATN ≠ .en d ∧ Instr.stat .ATN ≠ .dis d) ∧
    (step (caller 0x18080000 s0) = .next { caller 0x18080000 s0 with enabled := 0#31, pc := 1 } ∧
      ({ caller 0x18080000 s0 with enabled := 0#31, pc := 1 } : State).enabled ≠ (caller 0x18080000 s0).enabled) :=
  ⟨⟨rfl, by simp⟩, rfl, by decide⟩

theorem witness_ErrorIsClearedOnlyAtServiceEntry :
    step { inside .SV_INIT with flags := 0x01#8 } = .next (inside .SV_PRIMARY) ∧
    ({ inside .SV_INIT with flags := 0x01#8 } : State).error = true ∧ (inside .SV_PRIMARY).error = false := ⟨rfl, by decide, by decide⟩

theorem witness_HostLinesChangeOnlyByHostSteps :
    step (answer (.hSet .ATN .PULLED) s0) = .next { hostPulls .ATN s0 with script := [] } ∧
    ((answer (.hSet .RESET .PULLED) (inside .SV_PRIMARY)).faults = .empty ∧
      (answer (.hSet .RESET .PULLED) (inside .SV_PRIMARY)).script = .hSet .RESET .PULLED :: []) := ⟨rfl, by decide⟩

theorem witness_FaultsOnlyGrowAndStopTheUnit :
    (s0.addFault .F_BAD_ARG).faults ≠ .empty ∧ (s0.addFault .F_BAD_ARG).faults.has .F_BAD_ARG = true ∧
    exec (.stat .ATN) (s0.addFault .F_BAD_ARG) = .next { s0.addFault .F_BAD_ARG with r := some (.level .RELEASED), pc := 1 } :=
  ⟨by decide, by decide, rfl⟩

theorem witness_IssueWhileBusyFaultsReentry :
    (encode (.en 8) = .opWord 0x17080000 ∧ (inside .TA_D1).busy = true ∧ (inside .TA_D1).unitOp ≠ some (.en 8)) ∧
    ((inside .TA_D1).faults = .empty ∧ (answer (.intrude 0x17080000) (inside .TA_D1)).script = .intrude 0x17080000 :: [] ∧
      decodeOp 0x17080000 = .ok (.en 8)) := ⟨by decide, rfl, rfl, rfl⟩

theorem witness_BranchesMoveTheCallerAlone :
    (s0.unitAlone ∧ s0.ctl = .READY) ∧
    (({ s0 with prog := [.br 3] } : State).prog[s0.pc]? = some (.br 3)) ∧
    (({ s0 with prog := [.beq 5 3], r := some (.bus .COMMAND) } : State).r = some (.bus .COMMAND) ∧
      resultCode (.bus .COMMAND) = 5 ∧ resultCode (.bus .TALK) ≠ 5) ∧
    ((resultCode (.int16 0xFFFF#16)).slt 0 = true ∧ (resultCode (.int16 0x00FF#16)).slt 0 = false) ∧
    (({ s0 with prog := [.beq 5 3] } : State).prog[s0.pc]? = some (.beq 5 3) ∧ s0.r = none) ∧
    (({ s0 with flags := 0x02#8 } : State).eoi = true ∧ ({ s0 with flags := 0x01#8 } : State).error = true) :=
  ⟨⟨⟨rfl, rfl⟩, rfl⟩, rfl, by decide, by decide, by decide, by decide⟩

/-- A receive at level L that is under way after the step, one that ends with its byte, and one that fails; and one inside a command
string. -/
theorem witness_LineLevelReceiveRefinesTheRendezvous :
    ((receivingL .idle).params.byteLevel = .L ∧ (receivingL .idle).ctl.receives = true ∧ (receivingL .idle).unitOp = some (.rxb 0) ∧
      (receivingL .idle).lines.clock = ⟨.INPUT, .RELEASED⟩ ∧ (receivingL .idle).lines.data = .pulled ∧
      (receivingL .idle).error = false) ∧
    (({ capturing with params := { tp with byteLevel := .L } } : State).ctl.receives = true ∧
      ({ capturing with params := { tp with byteLevel := .L } } : State).unitOp = some (.rxb 8) ∧ capturing.data.content.isSome) ∧
    ((receivingL (.rx .waitReady false 0)).level .CLOCK = .RELEASED ∧
      (hostPulls .CLOCK (receivingL (.rx .waitEoi false 0))).level .CLOCK = .PULLED ∧
      (answer .timeout (receivingL (.rx .waitEoi false 0))).script = .timeout :: [] ∧
      (receivingL (.rx .eoiEnd true 0)).level .CLOCK ≠ .PULLED ∧
      (hostPulls .CLOCK (receivingL (.rx (.bitRise 7) true 0))).level .CLOCK ≠ .RELEASED ∧
      (receivingL (.rx (.bitFall 7) true 0)).level .CLOCK ≠ .PULLED) ∧
    view (fun t => (t.shake, t.lines.data)) (exec (.rxb 0) (receivingL (.rx .eoiPull true 0))) =
      some (.rx .eoiHold true 0, ⟨.OUTPUT, .PULLED⟩) ∧
    view (fun t => (t.ctl, t.shake)) (exec (.rxb 0) (receivingL .idle)) = some (.OP_RECV 0, .rx .relData false 0) ∧
    view (fun t => (t.ctl, t.r)) (exec (.rxb 0) (receivingL (.rx .ack true 0x55))) = some (.READY, some (.int16 0x0055#16)) ∧
    view (fun t => (t.ctl, t.r)) (exec (.rxb 0) (answer .timeout (receivingL (.rx .eoiEnd true 0)))) =
      some (.READY, some (.int16 0xFFFF#16)) := by decide

/-- A send at level L whose last step acknowledges it, one that fails, and the last bit cell of one. -/
theorem witness_LineLevelSendRefinesTheRendezvous :
    ((sendingL .idle).params.byteLevel = .L ∧ (sendingL .idle).ctl.transmits = true ∧
      (sendingL .idle).unitOp = some (.txb 0x41 false) ∧ (sendingL .idle).error = false ∧ (sendingL .idle).lines.clock = .pulled ∧
      (sendingL .idle).lines.data = .idle) ∧
    view (fun t => (t.ctl, t.r)) (exec (.txb 0x41 false) (sendingL (.tx .betweenBytes))) = some (.READY, some (.bool true)) ∧
    view (fun t => (t.ctl, t.r)) (exec (.txb 0x41 false) (answer .timeout (sendingL (.tx .frameAck)))) =
      some (.READY, some (.bool false)) ∧
    ((sendingL (.tx .waitReady)).level .DATA = .RELEASED ∧ (hostPulls .DATA (sendingL (.tx .eoiPulled))).level .DATA = .PULLED ∧
      (sendingL (.tx .eoiPulled)).level .DATA ≠ .PULLED ∧ (hostPulls .DATA (sendingL (.tx .eoiReleased))).level .DATA ≠ .RELEASED ∧
      (sendingL (.tx .frameAck)).level .DATA ≠ .PULLED ∧ (answer .timeout (sendingL (.tx .frameAck))).script = .timeout :: []) := by
  decide

theorem witness_lineSendPosture : lineSendPosture (sendingL .idle) ∧ lineSendPosture (sendingL (.tx .frameAck)) := ⟨trivial, rfl, rfl⟩

/-- A host that gives the eight bits of 0x81, and the first and the last bit cell of the send. -/
def givingBits : State :=
  { receivingL (.rx (.bitRise 0) true 0) with
    lines := .idle
    script := (List.finRange 8).flatMap fun i =>
      [.hSet .DATA (if (0x81#8).getLsbD i.val then .RELEASED else .PULLED), .hSet .CLOCK .RELEASED, .unit, .unit,
        .hSet .CLOCK .PULLED, .unit] }

theorem witness_LineLevelBitsAssembleTheByte :
    (sendingL (.tx (.bitData 0))).unitAlone ∧ (sendingL (.tx (.bitData 7))).unitAlone ∧
    ((sendingL (.tx (.bitData 0))).params.byteLevel = .L ∧ (sendingL (.tx (.bitData 0))).ctl.transmits = true ∧
      (sendingL (.tx (.bitData 0))).unitOp = some (.txb 0x41 false) ∧ (1 : Fin 8).val = (0 : Fin 8).val + 1 ∧ (7 : Fin 8).val = 7) ∧
    ((receivingL (.rx (.bitRise 7) true 0)).params.byteLevel = .L ∧ (receivingL (.rx (.bitRise 7) true 0)).unitOp = some (.rxb 0) ∧
      (receivingL (.rx (.bitRise 7) true 0)).level .CLOCK = .RELEASED ∧
      (hostPulls .CLOCK (receivingL (.rx (.bitFall 7) true 0))).level .CLOCK = .PULLED) ∧
    (givingBits.faults = .empty ∧ givingBits.params.byteLevel = .L ∧ givingBits.unitOp = some (.rxb 0) ∧
      givingBits.shake = .rx (.bitRise 0) true 0#8 ∧ givingBits.lines.clock = ⟨.INPUT, .RELEASED⟩ ∧
      givingBits.lines.data = ⟨.INPUT, .RELEASED⟩) :=
  ⟨⟨rfl, rfl⟩, ⟨rfl, rfl⟩, by decide, by decide, by decide⟩

/-- The sample takes DATA's level (R153): released is 1. -/
theorem test_bit_sample :
    view (·.shake) (exec (.rxb 0) { receivingL (.rx (.bitSample 2) false 0x01) with lines := .idle }) =
      some (.rx (.bitFall 2) false 0x05) := by decide

/-! ### The host premises (R69): a host that never answers or never releases a line breaks them, a pending release meets them -/

theorem test_W0_refuses_a_silent_host : ¬ (inside .SV_PRIMARY).premiseW0 := by
  intro h
  have fixed : step (inside .SV_PRIMARY) = .next (inside .SV_PRIMARY) := rfl
  obtain ⟨u, b, eoi, rest, hu, -, hs⟩ := (h _ ⟨0, rfl⟩ rfl).2.1 ⟨rfl, by decide, 0, rfl⟩
  rw [reaches_fixed fixed] at hu
  subst hu
  cases hs

/-- The answer `fail` taken in the step that issues the operation. -/
theorem test_W0_refuses_a_failing_host : ¬ (answer (.hTalk .fail) (caller 0x15080100 listening)).premiseW0 := by
  intro h
  exact (h _ ⟨0, rfl⟩ rfl).1 _ [] (.inl rfl) rfl rfl

/-- The same after a `unit` turn. -/
theorem test_W0_refuses_a_failure_after_a_unit_turn :
    ¬ ({ caller 0x15080100 listening with script := [.unit, .hTalk .fail] } : State).premiseW0 := by
  intro h
  exact (h _ ⟨0, rfl⟩ rfl).1 _ [] (.inl rfl) rfl rfl

/-- ATN asserted at SV_LISTEN, before the first sample, to send the UNLISTEN of the string. -/
theorem test_W2_refuses_an_assert_before_the_first_sample :
    ¬ ({ inside .SV_LISTEN with
      data := ⟨some 8, some .SECOND, some 15, some [], false⟩
      script := [.hSet .ATN .PULLED, .hTalk (.ok 0x3F false)] } : State).premiseW2 := by
  intro h
  have hc := h _ _ _ ⟨0, rfl⟩ (.inr (.inr ⟨.inl rfl, .inr ⟨rfl, rfl⟩⟩)) rfl rfl rfl
  cases hc

theorem test_W3_refuses_a_clock_held_for_ever : ¬ (hostPulls .CLOCK (inside .TA_WAIT)).premiseW3 := by
  intro h
  have fixed : step (hostPulls .CLOCK (inside .TA_WAIT)) = .next (hostPulls .CLOCK (inside .TA_WAIT)) := rfl
  obtain ⟨u, hu, hc⟩ := h _ ⟨0, rfl⟩ rfl rfl
  rw [reaches_fixed fixed] at hu
  subst hu
  exact absurd hc (by decide)

theorem test_W4_meets_a_pending_release :
    ∃ u, (answer (.hSet .ATN .RELEASED) (hostPulls .ATN (inside (.RL_WAIT true)))).reaches u ∧ u.host.atn = .RELEASED :=
  ⟨{ inside (.RL_WAIT true) with script := [] }, ⟨1, rfl⟩, rfl⟩

end Sys2Proof.Tests
end

section
/-! The caller's branches at READY (R110): what a branch line does, and the step that runs it (O57). -/

namespace Sys2Proof.Machine

/-- A caller's line that is no operation word (R110). -/
def CallerLine.isBranch : CallerLine → Bool
  | .op _ _ => false
  | .br _ | .beq _ _ | .blt0 _ | .beoi _ | .berr _ => true

theorem isBranch_eq_false {line : CallerLine} : line.isBranch = false ↔ ∃ w str, line = .op w str := by
  cases line <;> simp [CallerLine.isBranch]

theorem fetch_branch {s : State} {line : CallerLine} (hc : s.ctl = .READY) (hp : s.prog[s.pc]? = some line)
    (hl : line.isBranch = true) : fetch s = .moved (branch line s) := by
  cases line with
  | op w str => cases hl
  | br t | beq v t | blt0 t | beoi t | berr t => simp only [fetch, hc, hp]

/-- With the script empty and no fault recorded, a step is the unit's turn. -/
theorem step_unitAlone {s : State} (h : s.unitAlone) : step s = unitTurn s := by
  obtain ⟨hs, hf⟩ := h
  rw [step_of_mover hf, mover_nil hs]

theorem step_branch {s : State} {line : CallerLine} (h : s.unitAlone) (hc : s.ctl = .READY)
    (hp : s.prog[s.pc]? = some line) (hl : line.isBranch = true) : step s = branch line s := by
  rw [step_unitAlone h, unitTurn, fetch_branch hc hp hl]

theorem branch_decided {s : State} {line : CallerLine} {taken : Bool} (h : branchTaken line s = some taken) :
    branch line s = .next { s with pc := if taken then branchTarget line else s.pc + 1 } := by
  rw [branch, h, readField_some]

theorem branchTaken_eq_none {s : State} {line : CallerLine} (h : branchTaken line s = none) : s.r = none := by
  cases line with
  | op _ _ | br _ | beoi _ | berr _ => cases h
  | beq _ _ | blt0 _ => exact Option.map_eq_none_iff.mp h

theorem branch_undecided {s : State} {line : CallerLine} (h : branchTaken line s = none) :
    branch line s = .fault .readUnwritten := by
  rw [branch, h, readField_none]

end Sys2Proof.Machine

open Sys2Proof Sys2Proof.Machine

/-- Settles O57: at READY the step is `branch` of the caller's line, decided by `r` or the flags, or stopped at an unwritten `r`. -/
theorem branchesMoveTheCallerAlone : Obligations.BranchesMoveTheCallerAlone := by
  intro s target hu hc
  refine ⟨fun hp => ?br, fun v x hp hr => ?beq, fun x hp hr => ?blt0, fun v hp hr => ?unwritten, fun hp => ?beoi,
    fun hp => ?berr⟩
  case br => rw [step_branch hu hc hp rfl, branch_decided rfl]; rfl
  case beq =>
    have ht : branchTaken (.beq v target) s = some (resultCode x == v) := by rw [branchTaken, hr, Option.map_some]
    rw [step_branch hu hc hp rfl, branch_decided ht]
    simp only [beq_iff_eq, branchTarget]
  case blt0 =>
    have ht : branchTaken (.blt0 target) s = some ((resultCode x).slt 0) := by rw [branchTaken, hr, Option.map_some]
    rw [step_branch hu hc hp rfl, branch_decided ht]; rfl
  case unwritten =>
    rcases hp with hp | hp <;> rw [step_branch hu hc hp rfl, branch_undecided (by rw [branchTaken, hr, Option.map_none])]
  case beoi => rw [step_branch hu hc hp rfl, branch_decided rfl]; rfl
  case berr => rw [step_branch hu hc hp rfl, branch_decided rfl]; rfl

end

section
/-! Decoding never mixes the two formats: an operation word decodes to an operation (R107), a code byte to an ATN code (R93). -/

namespace Sys2Proof

/-- The instruction is a row of R107, and not an ATN code. -/
def Instr.isOperation : Instr → Bool
  | .pull _ | .rel _ | .mode _ _ | .stat _ | .rxb _ | .txb _ _ | .service | .send _ | .sends | .sendeoi _ | .sendfnf
  | .recv _ _ | .isen _ | .en _ | .dis _ | .rell _ | .turnaround | .undoTurnaround => true
  | .atnUnlisten | .atnUntalk | .atnGlobal _ | .atnListen _ | .atnTalk _ | .atnSecond _ | .atnClose _ | .atnOpen _
  | .atnNone1 _ | .atnNone3 _ | .atnNone5 _ | .atnNone7 _ | .atnNone8 _ | .atnNoneC _ => false

theorem noA_eq_ok {a : Byte} {k : Except Reject Instr} {i : Instr} : noA a k = .ok i ↔ a = 0#8 ∧ k = .ok i := by
  unfold noA
  split <;> simp [*]

theorem noB_eq_ok {b : Byte} {k : Except Reject Instr} {i : Instr} : noB b k = .ok i ↔ b = 0#8 ∧ k = .ok i := by
  unfold noB
  split <;> simp [*]

theorem coded_eq_ok {α : Type} {x : Option α} {r : Reject} {k : α → Except Reject Instr} {i : Instr} :
    coded x r k = .ok i ↔ ∃ v, x = some v ∧ k v = .ok i := by
  cases x <;> simp [coded]

theorem decodeRow_isOperation {sel a b : Byte} {i : Instr} (h : decodeRow sel a b = .ok i) : i.isOperation = true := by
  unfold decodeRow at h
  split at h <;> simp only [noA_eq_ok, noB_eq_ok, coded_eq_ok, Except.ok.injEq, reduceCtorEq] at h
  all_goals grind [Instr.isOperation]

theorem decodeOp_isOperation {w : OpWord} {i : Instr} (h : decodeOp w = .ok i) : i.isOperation = true := by
  unfold decodeOp at h
  split at h
  · exact decodeRow_isOperation h
  · cases h

end Sys2Proof

namespace Sys2Proof.Machine

/-- Each ATN code is executed as `atnCode` of some command and byte. -/
theorem exec_atn {i : Instr} (h : i.isOperation = false) (s : State) : ∃ cmd b, exec i s = atnCode cmd b s := by
  cases i with
  | pull | rel | mode | stat | rxb | txb | service | send | sends | sendeoi | sendfnf | recv | isen | en | dis | rell
  | turnaround | undoTurnaround => cases h
  | atnUnlisten | atnUntalk | atnGlobal | atnListen | atnTalk | atnSecond | atnClose | atnOpen
  | atnNone1 | atnNone3 | atnNone5 | atnNone7 | atnNone8 | atnNoneC => exact ⟨_, _, rfl⟩

theorem decodeAtn_isOperation (b : Byte) : (decodeAtn b).isOperation = false := by
  unfold decodeAtn
  split
  · rfl
  split
  · rfl
  split <;> rfl

end Sys2Proof.Machine

end

section
/-! Which steps stop the machine (R13, R285): under the invariant every step inside an operation, and every issue at READY,
answers a next state (O51). -/

namespace Sys2Proof.Machine

/-! ### Steps that do not stop -/

/-- The step does not stop the machine: it answers a next state. -/
def Advances (o : Out) : Prop := ∃ t, o = .next t

@[simp] theorem advances_next (t : State) : Advances (.next t) := ⟨t, rfl⟩

@[simp] theorem advances_goto (c : Ctl) (s : State) : Advances (goto c s) := ⟨_, rfl⟩

@[simp] theorem advances_raise (x : FaultReason) (s : State) : Advances (raise x s) := ⟨_, rfl⟩

@[simp] theorem advances_exitService (S : BusState) (s : State) : Advances (exitService S s) := by
  cases S <;> exact ⟨_, rfl⟩

@[simp] theorem advances_undoReturns (ok : Bool) (s : State) : Advances (undoReturns ok s) := ⟨_, rfl⟩

@[simp] theorem advances_releaseReturns (s : State) : Advances (releaseReturns s) := ⟨_, rfl⟩

/-- A field that has been written can be read. -/
theorem advances_readField {α : Type} {x : Option α} {k : α → Out} (hx : x.isSome)
    (hk : ∀ v, x = some v → Advances (k v)) : Advances (readField x k) := by
  obtain ⟨v, rfl⟩ := Option.isSome_iff_exists.mp hx
  exact hk v rfl

theorem advances_waitUntil {l : Line} {v : Level} {seen late : State → Out} (hs : ∀ t, Advances (seen t))
    (hl : ∀ t, Advances (late t)) (s : State) : Advances (waitUntil l v seen late s) := by
  rcases waitUntil_cases l v seen late s with ⟨_, h⟩ | ⟨_, h⟩ | ⟨_, _, _, _, h⟩ <;> rw [h]
  · exact hs s
  · exact advances_next s
  · exact hl _

theorem advances_stickyCheck {k : State → Out} {s : State} (h : Advances (k s)) : Advances (stickyCheck k s) := by
  rcases stickyCheck_cases k s with ⟨_, _, e⟩ | ⟨_, e⟩ <;> rw [e]
  · exact advances_raise _ s
  · exact h

/-! ### Byte transactions -/

theorem accumulateByte_advances {s : State} (c : Byte) (hs : s.data.content.isSome) : Advances (accumulateByte c s) := by
  unfold accumulateByte
  split_ifs
  · exact advances_goto _ _
  · exact advances_goto _ _
  · refine advances_readField hs fun str _ => ?_
    split_ifs
    · exact advances_exitService _ _
    · exact advances_goto _ _

/-- What follows a receive needs only the string that a byte of the command string is appended to (R200). -/
theorem afterRx_advances {s : State} (v : Word16) (hr : s.ctl.receives = true)
    (hs : s.ctl = .SV_ACC_RX → s.data.content.isSome) : Advances (afterRx v s) := by
  cases hc : s.ctl with
  | SV_PRIMARY | SV_SECONDARY =>
    simp only [afterRx, hc]
    split_ifs
    · exact advances_exitService _ _
    · exact advances_goto _ _
  | SV_ACC_RX =>
    simp only [afterRx, hc]
    split_ifs
    · exact advances_exitService _ _
    · exact accumulateByte_advances _ (hs hc)
  | OP_RECV d => simp only [afterRx, hc, advances_next]
  | _ => simp [hc, Ctl.receives] at hr

theorem rxStep_advances {s : State} (hr : s.ctl.receives = true) (hs : s.ctl = .SV_ACC_RX → s.data.content.isSome) :
    Advances (rxStep s) := by
  rcases rxStep_cases s with ⟨u, v, hu, _, _, e⟩ | ⟨u, _, _, e⟩ <;> rw [e]
  · exact afterRx_advances v (hu.ctl ▸ hr) (by rwa [hu.ctl, hu.data])
  · exact advances_next u

theorem afterTx_advances {s : State} (ok : Bool) (ht : s.ctl.transmits = true) : Advances (afterTx ok s) := by
  cases hc : s.ctl with
  | OP_SEND b => simp only [afterTx, hc, advances_next]
  | OP_SENDS _ | OP_SENDEOI _ =>
    simp only [afterTx, hc]
    split_ifs
    · exact advances_goto _ _
    · exact advances_next _
  | _ => simp [hc, Ctl.transmits] at ht

theorem txStep_advances {s : State} (b : Byte) (last : Bool) (ht : s.ctl.transmits = true) :
    Advances (txStep b last s) := by
  rcases txStep_cases b last s with ⟨u, ok, hu, _, _, e⟩ | ⟨u, _, _, e⟩ <;> rw [e]
  · exact afterTx_advances ok (hu.ctl ▸ ht)
  · exact advances_next u

/-! ### The steps of `service` (R170, R185) -/

@[simp] theorem serviceResetCheck_advances (s : State) : Advances (serviceResetCheck s) := by
  unfold serviceResetCheck
  split_ifs
  · exact advances_exitService _ _
  · exact advances_goto _ _

@[simp] theorem accumulateAtn_advances (s : State) : Advances (accumulateAtn s) := by
  unfold accumulateAtn
  split_ifs
  · exact advances_exitService _ _
  · exact advances_goto _ _

theorem serviceGate_advances {s : State} (hcmd : s.data.command.isSome)
    (hdev : s.data.command = some .LISTEN ∨ s.data.command = some .TALK → s.data.device.isSome) :
    Advances (serviceGate s) := by
  have hgate : ∀ p, s.data.device.isSome → Advances (gateDevice p s) := by
    intro p hd
    refine advances_readField hd fun d _ => ?_
    split_ifs
    · exact advances_goto _ _
    · exact advances_exitService _ _
  refine advances_readField hcmd fun cmd hc => ?_
  cases cmd with
  | LISTEN => exact hgate _ (hdev (.inl hc))
  | TALK => exact hgate _ (hdev (.inr hc))
  | _ => exact advances_exitService _ _

theorem serviceDispatch_advances {s : State} (hp : s.prim.isSome) : Advances (serviceDispatch s) :=
  advances_readField hp fun p _ => by cases p <;> exact advances_goto _ _

theorem exitByContent_advances {s : State} (hs : s.data.content.isSome) : Advances (exitByContent s) :=
  advances_readField hs fun _ _ => by split_ifs <;> exact advances_exitService _ _

theorem serviceListen_advances {s : State} (h : s.data.written) : Advances (serviceListen s) := by
  obtain ⟨_, hcmd, hch, hcontent⟩ := h
  refine advances_readField hcmd fun cmd _ => ?_
  cases cmd with
  | SECOND =>
    refine advances_readField hch fun ch _ => ?_
    split_ifs
    · exact advances_goto _ _
    · exact advances_exitService _ _
  | OPEN => exact advances_goto _ _
  | CLOSE => exact advances_exitService _ _
  | _ => exact exitByContent_advances hcontent

theorem accumulateEnd_advances {s : State} (hs : s.data.content.isSome) : Advances (accumulateEnd s) :=
  advances_readField hs fun _ _ => exitByContent_advances rfl

/-! ### The unit's turn inside an operation -/

/-- In the unit's turn the instruction of the procedure's step is executed (R45). -/
theorem unitTurn_own {s : State} {i : Instr} (hu : s.unitOp = some i) : unitTurn s = exec i s := by
  have hc : s.ctl ≠ .READY := by
    intro hc
    simp [State.unitOp, hc] at hu
  rw [unitTurn, fetch_own hc hu]

/-- The procedure's own step advances where the instruction's procedure `k` does. -/
theorem own_advances {s : State} {i : Instr} {a : Admission} {c : Ctl} {k : State → Out} (hu : s.unitOp = some i)
    (he : exec i s = operate i a c k s) (h : Advances (k s)) : Advances (unitTurn s) := by
  rwa [unitTurn_own hu, he, operate_own hu]

theorem rxb_own_advances {s : State} {d : Byte} (hu : s.unitOp = some (.rxb d)) (hr : s.ctl.receives = true)
    (hs : s.ctl = .SV_ACC_RX → s.data.content.isSome) : Advances (unitTurn s) :=
  own_advances hu rfl (advances_stickyCheck (rxStep_advances hr hs))

theorem txb_own_advances {s : State} {b : Byte} {last : Bool} (hu : s.unitOp = some (.txb b last))
    (ht : s.ctl.transmits = true) : Advances (unitTurn s) :=
  own_advances hu rfl (advances_stickyCheck (txStep_advances b last ht))

theorem atn_own_advances {s : State} {b : Byte} (hc : s.ctl = .SV_DECODE1 b) : Advances (unitTurn s) := by
  have hu : s.unitOp = some (decodeAtn b) := by rw [State.unitOp, hc]
  obtain ⟨cmd, b', he⟩ := exec_atn (decodeAtn_isOperation b) s
  rw [unitTurn_own hu, he, atnCode, hc]
  cases cmd <;> simp only [atnPrimary, advances_goto, advances_exitService]

/-- A receive of the secondary byte or of a string byte passes `D.device` (R178, R200). -/
theorem rxbOfDevice_isSome {s : State} (h : s.data.device.isSome) : ∃ d, s.rxbOfDevice = some (.rxb d) := by
  obtain ⟨d, hd⟩ := Option.isSome_iff_exists.mp h
  exact ⟨d.setWidth 8, by rw [State.rxbOfDevice, hd, Option.map_some]⟩

/-- Inside an operation the unit's turn never stops the machine. -/
theorem unitTurn_inside_advances {s : State} (h : s.Inv) (hr : s.ctl ≠ .READY) : Advances (unitTurn s) := by
  have hw := h.recordWritten
  have ht := h.notTransient
  cases hc : s.ctl with
  | READY => exact absurd hc hr
  | SV_ENTRY_CLK | SV_ENTRY_DATA | TA_REL_DATA | TA_PULL_CLK | UT_REL_CLK | RL_CLK k | RL_DATA k | RL_ATN k
  | FNF_REL_DATA | FNF_REL_CLK =>
    exact own_advances (by rw [State.unitOp, hc]) rfl (by simp [onDrivable, lineDrivable, afterLine, hc])
  | RL_SRQ k =>
    refine own_advances (by rw [State.unitOp, hc]) rfl ?_
    cases k <;> simp [onDrivable, lineDrivable, afterLine, hc]
  | SV_INIT | SV_RESET_CHECK | SV_ACC_ATN | SV_EXIT_RELEASE S =>
    exact own_advances (by rw [State.unitOp, hc]) rfl (by simp [serviceStep, serviceInit, hc])
  | SV_GATE =>
    rw [hc] at hw
    obtain ⟨hcommand, hdevice⟩ := hw
    exact own_advances (by rw [State.unitOp, hc]) rfl
      (by rw [serviceStep, hc]; exact serviceGate_advances hcommand hdevice)
  | SV_DISPATCH =>
    rw [hc] at hw
    obtain ⟨_, hprim⟩ := hw
    exact own_advances (by rw [State.unitOp, hc]) rfl (by rw [serviceStep, hc]; exact serviceDispatch_advances hprim)
  | SV_LISTEN =>
    rw [hc] at hw
    exact own_advances (by rw [State.unitOp, hc]) rfl (by rw [serviceStep, hc]; exact serviceListen_advances hw)
  | SV_ACC_END =>
    rw [hc] at hw
    obtain ⟨_, _, _, hcontent⟩ := hw
    exact own_advances (by rw [State.unitOp, hc]) rfl (by rw [serviceStep, hc]; exact accumulateEnd_advances hcontent)
  | SV_PRIMARY | OP_RECV d =>
    exact rxb_own_advances (by rw [State.unitOp, hc]) (by rw [hc]; rfl) (by simp [hc])
  | SV_SECONDARY =>
    rw [hc] at hw
    obtain ⟨hdevice, _⟩ := hw
    obtain ⟨d, hd⟩ := rxbOfDevice_isSome hdevice
    exact rxb_own_advances (by rw [State.unitOp, hc, hd]) (by rw [hc]; rfl) (by simp [hc])
  | SV_ACC_RX =>
    rw [hc] at hw
    obtain ⟨hdevice, _, _, hcontent⟩ := hw
    obtain ⟨d, hd⟩ := rxbOfDevice_isSome hdevice
    exact rxb_own_advances (by rw [State.unitOp, hc, hd]) (by rw [hc]; rfl) fun _ => hcontent
  | SV_DECODE1 b => exact atn_own_advances hc
  | SV_TA | TA_WAIT | TA_D1 | TA_D2 =>
    exact own_advances (by rw [State.unitOp, hc]) rfl (by simp [turnaroundStep, advances_waitUntil, hc])
  | UT_PULL_DATA | UT_D1 | UT_D2 | UT_WAIT =>
    exact own_advances (by rw [State.unitOp, hc]) rfl
      (by simp [undoTurnaroundStep, advances_waitUntil, hc])
  | RL_WAIT w =>
    refine own_advances (by rw [State.unitOp, hc]) rfl ?_
    cases w <;> simp [releaseLinesStep, advances_waitUntil, hc]
  | FNF_DELAY => exact own_advances (by rw [State.unitOp, hc]) rfl (by simp [sendFnfStep, hc])
  | OP_SEND b | OP_SENDEOI b => exact txb_own_advances (by rw [State.unitOp, hc]) (by rw [hc]; rfl)
  | OP_SENDS n =>
    have hb := List.getElem?_eq_getElem (h.sendsInside n hc)
    exact txb_own_advances (by simp only [State.unitOp, hc, hb]; rfl) (by rw [hc]; rfl)
  | OP_PULL _ | OP_REL _ | OP_MODE _ _ | OP_STATUS _ | OP_RXB _ | OP_TXB _ _ | OP_ISEN _ | OP_EN _ | OP_DIS _ =>
    rw [hc] at ht
    cases ht

/-! ### The unit's turn at READY -/

/-- An operation that only the block may run stops no caller that issues it: it faults (R287). -/
theorem internal_issued_advances {s : State} (hc : s.ctl = .READY) (hb : s.busy = false) (i : Instr) (c : Ctl)
    (k : State → Out) : Advances (operate i internalOnly c k s) := by
  rw [operate_issued hc hb, if_pos (by rfl)]
  exact advances_raise _ s

/-- An issued operation faults or takes its first step. -/
theorem issued_advances {s : State} (hc : s.ctl = .READY) (hb : s.busy = false) (i : Instr) (a : Admission) (c : Ctl)
    {k : State → Out} (hk : Advances (k { s with ctl := c, busy := true })) : Advances (operate i a c k s) := by
  rw [operate_issued hc hb]
  split_ifs
  · exact advances_raise _ s
  · exact advances_raise _ s
  · exact advances_raise _ s
  · exact hk

theorem exec_issued_advances {s : State} {i : Instr} (hc : s.ctl = .READY) (hb : s.busy = false)
    (hi : i.isOperation = true) : Advances (exec i s) := by
  cases i with
  | pull | rel | rxb | txb | turnaround | undoTurnaround => exact internal_issued_advances hc hb _ _ _
  | mode l m =>
    refine issued_advances hc hb _ _ _ ?_
    cases l <;> simp [onDrivable, lineDrivable]
  | stat | isen | en | dis =>
    simp only [exec, execStat, execIsen, execEn, execDis]
    exact issued_advances hc hb _ _ _ (advances_next _)
  | service | rell | sendfnf => exact issued_advances hc hb _ _ _ (advances_goto _ _)
  | send | sendeoi => exact issued_advances hc hb _ _ _ (txStep_advances _ _ rfl)
  | sends =>
    refine issued_advances hc hb _ _ _ ?_
    simp only [sendsStep]
    split
    · exact txStep_advances _ _ rfl
    · exact advances_next _
  | recv d has => exact issued_advances hc hb _ _ _ (rxStep_advances rfl (by simp))
  | _ => cases hi

/-- At READY the unit's turn stops only where a branch reads an unwritten `r` (R13, R110). -/
theorem unitTurn_ready_cases {s : State} (hc : s.ctl = .READY) (hb : s.busy = false) :
    Advances (unitTurn s) ∨ (s.r = none ∧ unitTurn s = .fault .readUnwritten) := by
  cases hp : s.prog[s.pc]? with
  | none => exact .inl (by simp [unitTurn, fetch, hc, hp])
  | some line =>
    by_cases hl : line.isBranch = true
    · rw [unitTurn, fetch_branch hc hp hl]
      cases ht : branchTaken line s with
      | none => exact .inr ⟨branchTaken_eq_none ht, branch_undecided ht⟩
      | some taken => exact .inl ⟨_, branch_decided ht⟩
    · obtain ⟨w, str, rfl⟩ := isBranch_eq_false.mp (eq_false_of_ne_true hl)
      left
      cases hd : decodeOp w with
      | ok i =>
        rw [unitTurn, fetch_line hc hp hd]
        exact exec_issued_advances hc hb (decodeOp_isOperation hd)
      | error e => simp [unitTurn, fetch, hc, hp, hd]

/-! ### Every step -/

/-- The invariant does not speak of the turns to come. -/
theorem State.Inv.withScript {s : State} (h : s.Inv) (script : List Turn) : State.Inv { s with script := script } :=
  ⟨h.flagsReserved, h.busyIff, h.atnIdle, h.srqIdle, h.clockLegal, h.dataLegal, h.notTransient, h.phaseFits, h.idleAtRest,
    h.exitFits, h.deviceRange, h.contentBound, h.validIff, h.validWritten, h.recordWritten, h.shakeFits, h.sendsInside⟩

theorem unitTurn_cases {s : State} (h : s.Inv) :
    Advances (unitTurn s) ∨ (s.ctl = .READY ∧ s.r = none ∧ unitTurn s = .fault .readUnwritten) := by
  by_cases hc : s.ctl = .READY
  · have hb : s.busy = false := eq_false_of_ne_true fun hb => h.busyIff.mp hb hc
    rcases unitTurn_ready_cases hc hb with ha | ⟨hr, hf⟩
    · exact .inl ha
    · exact .inr ⟨hc, hr, hf⟩
  · exact .inl (unitTurn_inside_advances h hc)

/-- Everything a step from a state with the invariant can do: a next state, or one of the two stops. -/
theorem step_cases {s : State} (h : s.Inv) :
    Advances (step s) ∨ (s.faults ≠ .empty ∧ step s = .fault .quiescent) ∨
    (s.ctl = .READY ∧ s.r = none ∧ step s = .fault .readUnwritten) := by
  by_cases hf : s.faults = .empty
  · rw [step_of_mover hf]
    rcases mover_cases s with ⟨_, _, _, _, hm⟩ | ⟨_, _, _, _, hm⟩ | ⟨rest, _, hm⟩ | hm <;> rw [hm]
    · exact .inl (advances_next _)
    · exact .inl (advances_next _)
    · exact (unitTurn_cases (h.withScript rest)).imp_right .inr
    · exact (unitTurn_cases h).imp_right .inr
  · have hn : s.faults.nonempty = true := by
      rwa [← FaultSet.nonempty_eq_false, Bool.not_eq_false] at hf
    exact .inr (.inl ⟨hf, if_pos hn⟩)

end Sys2Proof.Machine

open Sys2Proof Sys2Proof.Machine

/-- Settles O51: under the invariant a step advances, is quiescent after a fault, or is a branch's read of an unwritten `r`. -/
theorem machineStopsOnlyAfterAFaultOrAnUnwrittenResult :
    Obligations.MachineStopsOnlyAfterAFaultOrAnUnwrittenResult := by
  intro s h
  rcases step_cases h with ⟨t, e⟩ | ⟨hf, e⟩ | ⟨hc, hr, e⟩ <;> rw [e]
  · exact ⟨fun x hx => (nomatch hx), fun x hx => (nomatch hx)⟩
  · exact ⟨fun x hx => (nomatch hx), fun x hx => .inl ⟨by cases hx; rfl, hf⟩⟩
  · exact ⟨fun x hx => (nomatch hx), fun x hx => .inr ⟨by cases hx; rfl, hc, hr⟩⟩

end

section
/-! What an outcome ensures of its next state: one rule per shared operation (R13, R46, R62, R131, R198, R281). -/

namespace Sys2Proof.Machine

/-- Where the outcome is a next state, `P` holds of that state. -/
def Ensures (P : State → Prop) (o : Out) : Prop := ∀ t, o = .next t → P t

variable {P : State → Prop}

@[simp] theorem ensures_next {s : State} : Ensures P (.next s) ↔ P s :=
  ⟨fun h => h s rfl, fun h t ht => by cases ht; exact h⟩

@[simp] theorem ensures_fault (x : Fault) : Ensures P (.fault x) := fun _ ht => nomatch ht

@[simp] theorem ensures_refused (x : Refusal) : Ensures P (.refused x) := fun _ ht => nomatch ht

@[simp] theorem ensures_goto {c : Ctl} {s : State} : Ensures P (goto c s) ↔ P { s with ctl := c } := ensures_next

@[simp] theorem ensures_raise {x : FaultReason} {s : State} : Ensures P (raise x s) ↔ P (s.addFault x) := ensures_next

theorem ensures_readField {α : Type} {x : Option α} {k : α → Out} (h : ∀ v, x = some v → Ensures P (k v)) :
    Ensures P (readField x k) := by
  cases x with
  | none => exact ensures_fault _
  | some v => exact h v rfl

theorem ensures_waitUntil {l : Line} {v : Level} {seen late : State → Out} {s : State} (hold : P s)
    (hseen : Ensures P (seen s)) (hlate : ∀ rest, Ensures P (late { s with script := rest }.setError)) :
    Ensures P (waitUntil l v seen late s) := by
  rcases waitUntil_cases l v seen late s with ⟨_, e⟩ | ⟨_, e⟩ | ⟨_, _, rest, _, e⟩ <;> rw [e]
  · exact hseen
  · exact ensures_next.mpr hold
  · exact hlate rest

theorem ensures_stickyCheck {k : State → Out} {s : State} (hfault : P (s.addFault .F_STICKY_ERROR))
    (hk : Ensures P (k s)) : Ensures P (stickyCheck k s) := by
  rcases stickyCheck_cases k s with ⟨_, _, e⟩ | ⟨_, e⟩ <;> rw [e]
  · exact ensures_raise.mpr hfault
  · exact hk

theorem ensures_exitService {S : BusState} {s : State}
    (hidle : S = .IDLE ∨ S = .ERROR ∨ S = .RESET → P { s with ctl := .RL_CLK (.exit S) })
    (hdata : S = .LISTEN ∨ S = .TALK ∨ S = .COMMAND → P (s.dataExit S)) : Ensures P (exitService S s) := by
  rcases exitService_cases S s with ⟨hS, e⟩ | ⟨hS, e⟩ <;> rw [e]
  · exact ensures_next.mpr (hidle hS)
  · exact ensures_next.mpr (hdata hS)

theorem ensures_rxStep {s : State}
    (hended : ∀ u v, Handshake s u → u.shake = .idle ∨ s.params.byteLevel = .T ∧ u.shake = s.shake →
      Ensures P (afterRx v u))
    (hpending : ∀ u, Handshake s u →
      u.shake = s.shake ∨ s.params.byteLevel = .L ∧ (∃ p e a, u.shake = .rx p e a) → P u) :
    Ensures P (rxStep s) := by
  rcases rxStep_cases s with ⟨u, v, hu, hshake, _, e⟩ | ⟨u, hu, hshake, e⟩ <;> rw [e]
  · exact hended u v hu hshake
  · exact ensures_next.mpr (hpending u hu hshake)

theorem ensures_txStep {b : Byte} {last : Bool} {s : State}
    (hended : ∀ u ok, Handshake s u → u.shake = .idle ∨ s.params.byteLevel = .T ∧ u.shake = s.shake →
      Ensures P (afterTx ok u))
    (hpending : ∀ u, Handshake s u →
      u.shake = s.shake ∨ s.params.byteLevel = .L ∧ (∃ p, u.shake = .tx p) → P u) :
    Ensures P (txStep b last s) := by
  rcases txStep_cases b last s with ⟨u, ok, hu, hshake, _, e⟩ | ⟨u, hu, hshake, e⟩ <;> rw [e]
  · exact hended u ok hu hshake
  · exact ensures_next.mpr (hpending u hu hshake)

/-- The three ways of `operate`: the procedure's own step, a fault, or the first step of an admitted operation. -/
theorem ensures_operate {i : Instr} {a : Admission} {c : Ctl} {k : State → Out} {s : State}
    (hfault : ∀ x, P (s.addFault x)) (hown : s.unitOp = some i → Ensures P (k s))
    (hissued : s.inProgress = false → a.contract = true → a.args = true → a.sticky = false →
      Ensures P (k { s with ctl := c, busy := true })) :
    Ensures P (operate i a c k s) := by
  rcases operate_cases i a c k s with ⟨hu, e⟩ | ⟨x, e⟩ | ⟨_, hp, hcontract, hargs, hsticky, e⟩ <;> rw [e]
  · exact hown hu
  · exact ensures_raise.mpr (hfault x)
  · exact hissued hp hcontract hargs hsticky

/-- The procedure's own step ensures what the instruction's procedure `k` does. -/
theorem own_ensures {s : State} {i : Instr} {a : Admission} {c : Ctl} {k : State → Out} (hu : s.unitOp = some i)
    (he : exec i s = operate i a c k s) (h : Ensures P (k s)) : Ensures P (unitTurn s) := by
  rwa [unitTurn_own hu, he, operate_own hu]

end Sys2Proof.Machine

end

section
/-! Every step keeps the invariant (O49). The invariant is split into what it says of the registers inside an operation
(`State.Inside`) and what it says of a control state (`Ctl.Fits`). -/

namespace Sys2Proof.Machine

/-! ### The registers -/

/-- No line is driven to its idle level, and ATN and SRQ not at all (R27, R125, R254, R279). -/
structure UnitLines.Sound (u : UnitLines) : Prop where
  atn : u.atn = .idle
  srq : u.srq = .idle
  clock : u.clock.legal
  data : u.data.legal

/-- The record's bounds (R35, R38), and that it is valid, and then whole, outside phase NONE (R39, R51). -/
structure DataRec.Sound (d : DataRec) (p : Phase) (cmdMax : Nat) : Prop where
  device : ∀ x, d.device = some x → x.toNat ≤ 15
  content : ∀ c, d.content = some c → c.length ≤ cmdMax
  validIff : d.valid = true ↔ p ≠ .NONE
  validWritten : d.valid = true → d.written

/-- What the invariant says of the registers inside an operation, with no level-L handshake under way. -/
structure State.Inside (s : State) : Prop where
  flags : s.flags &&& 0xFC#8 = 0#8
  lines : s.lines.Sound
  record : s.data.Sound s.phase s.params.cmdMax
  busy : s.busy = true
  shake : s.shake = .idle

/-- What the invariant says of control state `c` in an operation. -/
structure Ctl.Fits (c : Ctl) (s : State) : Prop where
  notReady : c ≠ .READY
  notTransient : c.transient = false
  phase : phaseInside c s.phase
  released : releasedSoFar c s.phase s.lines
  exit : exitIsIdle c
  written : writtenBefore c s.data s.prim
  sends : ∀ n, c = .OP_SENDS n → n < s.callerString.length

theorem State.Inv.lines {s : State} (h : s.Inv) : s.lines.Sound := ⟨h.atnIdle, h.srqIdle, h.clockLegal, h.dataLegal⟩

theorem State.Inv.record {s : State} (h : s.Inv) : s.data.Sound s.phase s.params.cmdMax :=
  ⟨h.deviceRange, h.contentBound, h.validIff, h.validWritten⟩

theorem State.Inv.inside {s : State} (h : s.Inv) (hc : s.ctl ≠ .READY) (hs : s.shake = .idle) : s.Inside :=
  ⟨h.flagsReserved, h.lines, h.record, h.busyIff.mpr hc, hs⟩

/-- A level-L handshake is under way only at the steps of a byte transaction. -/
theorem State.Inv.shake_idle {s : State} (h : s.Inv) (hr : s.ctl.receives = false) (ht : s.ctl.transmits = false) :
    s.shake = .idle := by
  have hs := h.shakeFits
  unfold shakeInPlace at hs
  split at hs
  · assumption
  · simp [hr] at hs
  · simp [ht] at hs

/-- At level T no handshake of level L is under way. -/
theorem State.Inv.shake_idle_of_T {s : State} (h : s.Inv) (hl : s.params.byteLevel = .T) : s.shake = .idle := by
  have hs := h.shakeFits
  unfold shakeInPlace at hs
  split at hs
  · assumption
  · simp [hl] at hs
  · simp [hl] at hs

/-- An operation that the caller issues starts from sound registers. -/
theorem State.Inv.issued {s : State} (h : s.Inv) (hc : s.ctl = .READY) (c : Ctl) :
    State.Inside { s with ctl := c, busy := true } :=
  ⟨h.flagsReserved, h.lines, h.record, rfl, h.shake_idle (by rw [hc]; rfl) (by rw [hc]; rfl)⟩

/-! ### Updates of the registers -/

theorem UnitLines.Sound.release {u : UnitLines} (h : u.Sound) (l : DLine) : (u.put l .idle).Sound := by
  obtain ⟨ha, hs, hc, hd⟩ := h
  cases l with
  | ATN => exact ⟨rfl, hs, hc, hd⟩
  | CLOCK => exact ⟨ha, hs, .inl rfl, hd⟩
  | DATA => exact ⟨ha, hs, hc, .inl rfl⟩
  | SRQ => exact ⟨ha, rfl, hc, hd⟩

/-- With ATN and SRQ never pulled, releasing CLOCK and DATA makes every line idle (R27, R255). -/
theorem UnitLines.Sound.eq_idle {u : UnitLines} (h : u.Sound) (hc : u.clock = .idle) (hd : u.data = .idle) : u = .idle := by
  obtain ⟨atn, clock, data, srq⟩ := u
  obtain ⟨rfl, rfl, _, _⟩ := h
  cases hc
  cases hd
  rfl

theorem LineReg.legal.touched {x y : LineReg} (h : x.legal) (ht : x.touched y) : y.legal := by
  rcases ht with rfl | ht
  · exact h
  · exact ht

variable {s : State}

theorem State.Inside.withLines (h : s.Inside) {u : UnitLines} (hu : u.Sound) : State.Inside { s with lines := u } :=
  ⟨h.flags, hu, h.record, h.busy, h.shake⟩

theorem State.Inside.release (h : s.Inside) (l : DLine) : (s.release l).Inside := h.withLines (h.lines.release l)

theorem State.Inside.pullClock (h : s.Inside) : (s.pull .CLOCK).Inside :=
  h.withLines ⟨h.lines.atn, h.lines.srq, .inr rfl, h.lines.data⟩

theorem State.Inside.pullData (h : s.Inside) : (s.pull .DATA).Inside :=
  h.withLines ⟨h.lines.atn, h.lines.srq, h.lines.clock, .inr rfl⟩

theorem State.Inside.withRecord (h : s.Inside) {d : DataRec} {p : Phase} (hd : d.Sound p s.params.cmdMax) :
    State.Inside { s with data := d, phase := p } :=
  ⟨h.flags, h.lines, hd, h.busy, h.shake⟩

theorem State.Inside.withPrim (h : s.Inside) (p : Option Prim) : State.Inside { s with prim := p } :=
  ⟨h.flags, h.lines, h.record, h.busy, h.shake⟩

theorem State.Inside.withCtl (h : s.Inside) (c : Ctl) : State.Inside { s with ctl := c } :=
  ⟨h.flags, h.lines, h.record, h.busy, h.shake⟩

theorem State.Inside.withFlags (h : s.Inside) {f : BitVec 8} (hf : f &&& 0xFC#8 = 0#8) :
    State.Inside { s with flags := f } :=
  ⟨hf, h.lines, h.record, h.busy, h.shake⟩

theorem State.Inside.setError (h : s.Inside) : s.setError.Inside := h.withFlags (flagsSetError_reserved h.flags)

/-- The timeout step of a spin-wait (R63). -/
theorem State.Inside.timedOut (h : s.Inside) (rest : List Turn) : State.Inside { s with script := rest }.setError :=
  State.Inside.setError ⟨h.flags, h.lines, h.record, h.busy, h.shake⟩

/-- A record that is not valid, in phase NONE, needs only its bounds (R35, R38). -/
theorem DataRec.Sound.unused {d : DataRec} {cmdMax : Nat} (hv : d.valid = false)
    (hdev : ∀ x, d.device = some x → x.toNat ≤ 15) (hcon : ∀ c, d.content = some c → c.length ≤ cmdMax) :
    d.Sound .NONE cmdMax :=
  ⟨hdev, hcon, by simp [hv], by simp [hv]⟩

theorem State.Inside.busIdle (h : s.Inside) : s.busIdle.Inside :=
  h.withRecord (.unused rfl h.record.device h.record.content)

theorem State.Inside.talkDone (h : s.Inside) (hp : s.phase = .TALK) : State.Inside { s with phase := .TALK_DONE } := by
  have hv : s.data.valid = true := h.record.validIff.mpr (by simp [hp])
  exact h.withRecord ⟨h.record.device, h.record.content, by simp [hv], h.record.validWritten⟩

/-! ### Where a step leads -/

/-- The next step of a procedure: its control state must fit. -/
theorem State.Inside.goto (h : s.Inside) {c : Ctl} (hc : c.Fits s) : State.Inv { s with ctl := c } where
  flagsReserved := h.flags
  busyIff := by simp [h.busy, hc.notReady]
  atnIdle := h.lines.atn
  srqIdle := h.lines.srq
  clockLegal := h.lines.clock
  dataLegal := h.lines.data
  notTransient := hc.notTransient
  phaseFits := hc.phase
  idleAtRest := hc.released
  exitFits := hc.exit
  deviceRange := h.record.device
  contentBound := h.record.content
  validIff := h.record.validIff
  validWritten := h.record.validWritten
  recordWritten := hc.written
  shakeFits := by simp [shakeInPlace, h.shake]
  sendsInside := hc.sends

/-- The operation returns to the caller, or to the block: the lines are idle where the phase is NONE (R27). -/
theorem State.Inside.ready (h : s.Inside) {r : Option Result} {pc : Nat} (hp : s.phase = .NONE → s.lines = .idle) :
    State.Inv { s with ctl := .READY, busy := false, r := r, pc := pc } where
  flagsReserved := h.flags
  busyIff := by simp
  atnIdle := h.lines.atn
  srqIdle := h.lines.srq
  clockLegal := h.lines.clock
  dataLegal := h.lines.data
  notTransient := rfl
  phaseFits := trivial
  idleAtRest := hp
  exitFits := trivial
  deviceRange := h.record.device
  contentBound := h.record.content
  validIff := h.record.validIff
  validWritten := h.record.validWritten
  recordWritten := trivial
  shakeFits := by simp [shakeInPlace, h.shake]
  sendsInside := nofun

theorem State.Inv.addFault (h : s.Inv) (x : FaultReason) : (s.addFault x).Inv :=
  ⟨h.flagsReserved, h.busyIff, h.atnIdle, h.srqIdle, h.clockLegal, h.dataLegal, h.notTransient, h.phaseFits, h.idleAtRest,
    h.exitFits, h.deviceRange, h.contentBound, h.validIff, h.validWritten, h.recordWritten, h.shakeFits, h.sendsInside⟩

theorem State.Inv.withHost (h : s.Inv) (x : HostLines) : State.Inv { s with host := x } :=
  ⟨h.flagsReserved, h.busyIff, h.atnIdle, h.srqIdle, h.clockLegal, h.dataLegal, h.notTransient, h.phaseFits, h.idleAtRest,
    h.exitFits, h.deviceRange, h.contentBound, h.validIff, h.validWritten, h.recordWritten, h.shakeFits, h.sendsInside⟩

/-- At READY the invariant does not speak of the caller's position. -/
theorem State.Inv.withPc (h : s.Inv) (hc : s.ctl = .READY) (n : Nat) : State.Inv { s with pc := n } :=
  ⟨h.flagsReserved, h.busyIff, h.atnIdle, h.srqIdle, h.clockLegal, h.dataLegal, h.notTransient, h.phaseFits, h.idleAtRest,
    h.exitFits, h.deviceRange, h.contentBound, h.validIff, h.validWritten, h.recordWritten, h.shakeFits, by simp [hc]⟩

/-! ### Byte transactions -/

/-- No line release is under way at the steps of a byte transaction. -/
theorem releasedSoFar_of_byteStep {c : Ctl} (hc : c.receives = true ∨ c.transmits = true) (p : Phase) (u : UnitLines) :
    releasedSoFar c p u := by
  cases c with
  | SV_PRIMARY | SV_SECONDARY | SV_ACC_RX | OP_RECV | OP_SEND | OP_SENDS | OP_SENDEOI => trivial
  | _ => simp [Ctl.receives, Ctl.transmits] at hc

/-- The invariant across one step of a byte transaction. -/
theorem State.Inv.handshake {u : State} (h : s.Inv) (hu : Handshake s u)
    (hc : s.ctl.receives = true ∨ s.ctl.transmits = true) (hs : shakeInPlace u) : u.Inv where
  flagsReserved := hu.reserved h.flagsReserved
  busyIff := by rw [hu.busy, hu.ctl]; exact h.busyIff
  atnIdle := hu.atnLine.trans h.atnIdle
  srqIdle := hu.srqLine.trans h.srqIdle
  clockLegal := h.clockLegal.touched hu.clockLine
  dataLegal := h.dataLegal.touched hu.dataLine
  notTransient := by rw [hu.ctl]; exact h.notTransient
  phaseFits := by rw [hu.ctl, hu.phase]; exact h.phaseFits
  idleAtRest := by rw [hu.ctl]; exact releasedSoFar_of_byteStep hc _ _
  exitFits := by rw [hu.ctl]; exact h.exitFits
  deviceRange := by rw [hu.data]; exact h.deviceRange
  contentBound := by rw [hu.data, hu.params]; exact h.contentBound
  validIff := by rw [hu.data, hu.phase]; exact h.validIff
  validWritten := by rw [hu.data]; exact h.validWritten
  recordWritten := by rw [hu.ctl, hu.data, hu.prim]; exact h.recordWritten
  shakeFits := hs
  sendsInside := by rw [hu.ctl, callerString_congr hu.prog hu.pc]; exact h.sendsInside

/-! ### `service` (R170, R185) -/

/-- Inside `service` after its entry: the record is not valid and the phase is NONE (R51, R171). -/
structure State.InService (s : State) : Prop where
  inside : s.Inside
  phase : s.phase = .NONE

/-- The steps of `service` after its entry, and of its turnaround, before the lines are released (R170, R220). -/
def Ctl.isServiceStep : Ctl → Bool
  | .SV_RESET_CHECK | .SV_PRIMARY | .SV_DECODE1 _ | .SV_GATE | .SV_SECONDARY | .SV_DISPATCH | .SV_TA | .SV_LISTEN
  | .SV_ACC_ATN | .SV_ACC_RX | .SV_ACC_END | .TA_WAIT | .TA_REL_DATA | .TA_D1 | .TA_PULL_CLK | .TA_D2 => true
  | _ => false

theorem Ctl.isServiceStep_fits {c : Ctl} (hc : c.isServiceStep = true) (hp : s.phase = .NONE)
    (hw : writtenBefore c s.data s.prim) : c.Fits s := by
  cases c with
  | SV_RESET_CHECK | SV_PRIMARY | SV_DECODE1 | SV_GATE | SV_SECONDARY | SV_DISPATCH | SV_TA | SV_LISTEN | SV_ACC_ATN
  | SV_ACC_RX | SV_ACC_END | TA_WAIT | TA_REL_DATA | TA_D1 | TA_PULL_CLK | TA_D2 =>
    exact ⟨nofun, rfl, hp, trivial, trivial, hw, nofun⟩
  | _ => cases hc

theorem State.Inv.phaseAt (h : s.Inv) {c : Ctl} (hc : s.ctl = c) : phaseInside c s.phase := hc ▸ h.phaseFits

theorem State.Inv.releasedAt (h : s.Inv) {c : Ctl} (hc : s.ctl = c) : releasedSoFar c s.phase s.lines := hc ▸ h.idleAtRest

theorem State.Inv.writtenAt (h : s.Inv) {c : Ctl} (hc : s.ctl = c) : writtenBefore c s.data s.prim := hc ▸ h.recordWritten

theorem State.Inv.inService (h : s.Inv) {c : Ctl} (hc : s.ctl = c) (hs : c.isServiceStep = true) (hi : s.shake = .idle) :
    s.InService := by
  have hphase := h.phaseAt hc
  cases c with
  | SV_RESET_CHECK | SV_PRIMARY | SV_DECODE1 | SV_GATE | SV_SECONDARY | SV_DISPATCH | SV_TA | SV_LISTEN | SV_ACC_ATN
  | SV_ACC_RX | SV_ACC_END | TA_WAIT | TA_REL_DATA | TA_D1 | TA_PULL_CLK | TA_D2 =>
    exact ⟨h.inside (by rw [hc]; nofun) hi, hphase⟩
  | _ => cases hs

theorem State.InService.goto (h : s.InService) {c : Ctl} (hc : c.isServiceStep = true)
    (hw : writtenBefore c s.data s.prim) : State.Inv { s with ctl := c } :=
  h.inside.goto (Ctl.isServiceStep_fits hc h.phase hw)

/-- `exit(S)` keeps the invariant; LISTEN, TALK and COMMAND need the record whole (R39, R198). -/
theorem State.InService.exit (h : s.InService) {S : BusState}
    (hw : S = .LISTEN ∨ S = .TALK ∨ S = .COMMAND → s.data.written) : Ensures State.Inv (exitService S s) := by
  refine ensures_exitService (fun hS => h.inside.goto ⟨nofun, rfl, h.phase, trivial, hS, trivial, nofun⟩) fun hS => ?_
  have hphase : busStatePhase S ≠ .NONE := by rcases hS with rfl | rfl | rfl <;> simp [busStatePhase]
  have hrecord : DataRec.Sound { s.data with valid := true } (busStatePhase S) s.params.cmdMax :=
    ⟨h.inside.record.device, h.inside.record.content, by simp [hphase], fun _ => hw hS⟩
  exact (h.inside.withRecord hrecord).ready fun hp => absurd hp hphase

/-- The three results that release the lines need no field of the record. -/
theorem State.InService.exit_idle (h : s.InService) {S : BusState} (hS : S = .IDLE ∨ S = .ERROR ∨ S = .RESET) :
    Ensures State.Inv (exitService S s) :=
  h.exit fun hd => by rcases hS with rfl | rfl | rfl <;> simp at hd

/-- The record inside `service` is not valid, so only its bounds bind a new one. -/
theorem State.InService.withRecord (h : s.InService) {d : DataRec} (hv : d.valid = s.data.valid)
    (hdev : ∀ x, d.device = some x → x.toNat ≤ 15) (hcon : ∀ c, d.content = some c → c.length ≤ s.params.cmdMax) :
    State.InService { s with data := d } := by
  have hvalid : s.data.valid = false := by
    have hiff := h.inside.record.validIff
    simpa [h.phase] using hiff
  obtain ⟨hi, hp⟩ := h
  refine ⟨⟨hi.flags, hi.lines, ?_, hi.busy, hi.shake⟩, hp⟩
  rw [show (State.phase { s with data := d }) = .NONE from hp]
  exact .unused (hv.trans hvalid) hdev hcon

theorem State.InService.setError (h : s.InService) : s.setError.InService := ⟨h.inside.setError, h.phase⟩

theorem serviceInit_keepsInv (h : s.Inside) : Ensures State.Inv (serviceInit s) := by
  have hin : State.InService { s.busIdle with flags := 0#8, prim := none } :=
    ⟨(h.busIdle.withFlags (f := 0#8) (by decide)).withPrim none, rfl⟩
  unfold serviceInit
  split <;> exact ensures_goto.mpr (hin.goto rfl trivial)

theorem serviceResetCheck_keepsInv (h : s.InService) : Ensures State.Inv (serviceResetCheck s) := by
  unfold serviceResetCheck
  split
  · exact h.exit_idle (.inr (.inr rfl))
  · exact ensures_goto.mpr (h.goto rfl trivial)

theorem argNibble_toNat_le (b : Byte) : ((argNibble b).setWidth 5).toNat ≤ 15 := by
  have hlt := (argNibble b).isLt
  rw [BitVec.toNat_setWidth]
  omega

/-- The primary byte writes a device of four bits (R35, R175). -/
theorem State.InService.primary (h : s.InService) (cmd : Cmd) (b : Byte) :
    State.InService { s with data := s.data.primary cmd b } := by
  refine h.withRecord rfl (fun x hx => ?_) h.inside.record.content
  simp only [DataRec.primary] at hx
  split at hx
  · cases hx
    exact argNibble_toNat_le b
  · exact h.inside.record.device x hx

theorem atnPrimary_keepsInv (h : s.InService) (cmd : Cmd) (b : Byte) : Ensures State.Inv (atnPrimary cmd b s) := by
  have hin := h.primary cmd b
  cases cmd with
  | UNLISTEN | UNTALK => exact hin.exit_idle (.inl rfl)
  | GLOBAL | LISTEN | TALK | SECOND | CLOSE | OPEN | NONE =>
    exact ensures_goto.mpr (hin.goto rfl (by simp [writtenBefore, DataRec.primary, cmdTakesDevice]))

theorem atnSecondary_keepsInv (h : s.InService) (hdev : s.data.device.isSome) (hprim : s.prim.isSome) (cmd : Cmd)
    (b : Byte) : Ensures State.Inv (atnSecondary cmd b s) := by
  have hin : State.InService { s with data := s.data.secondary cmd b } := by
    refine h.withRecord rfl h.inside.record.device fun c hc => ?_
    cases hc
    exact Nat.zero_le _
  exact ensures_goto.mpr (hin.goto rfl ⟨⟨hdev, rfl, rfl, rfl⟩, hprim⟩)

/-- The gate lets only a device that the primary has written through (R177). -/
theorem serviceGate_keepsInv (h : s.InService) : Ensures State.Inv (serviceGate s) := by
  have hgate : ∀ p, Ensures State.Inv (gateDevice p s) := by
    intro p
    refine ensures_readField fun d hd => ?_
    split
    · have hin : State.InService { s with prim := some p } := ⟨h.inside.withPrim _, h.phase⟩
      exact ensures_goto.mpr (hin.goto rfl ⟨Option.isSome_of_mem hd, rfl⟩)
    · exact h.exit_idle (.inl rfl)
  refine ensures_readField fun cmd _ => ?_
  cases cmd with
  | LISTEN | TALK => exact hgate _
  | GLOBAL | UNLISTEN | UNTALK | SECOND | CLOSE | OPEN | NONE => exact h.exit_idle (.inl rfl)

theorem serviceDispatch_keepsInv (h : s.InService) (hw : s.data.written) : Ensures State.Inv (serviceDispatch s) :=
  ensures_readField fun p _ => by cases p <;> exact ensures_goto.mpr (h.goto rfl hw)

theorem exitByContent_keepsInv (h : s.InService) (hw : s.data.written) : Ensures State.Inv (exitByContent s) :=
  ensures_readField fun _ _ => by split <;> exact h.exit fun _ => hw

theorem serviceListen_keepsInv (h : s.InService) (hw : s.data.written) : Ensures State.Inv (serviceListen s) := by
  refine ensures_readField fun cmd _ => ?_
  cases cmd with
  | SECOND =>
    refine ensures_readField fun ch _ => ?_
    split
    · exact ensures_goto.mpr (h.goto rfl hw)
    · exact h.exit fun _ => hw
  | OPEN => exact ensures_goto.mpr (h.goto rfl hw)
  | CLOSE => exact h.exit fun _ => hw
  | LISTEN | TALK | GLOBAL | UNLISTEN | UNTALK | NONE => exact exitByContent_keepsInv h hw

theorem accumulateAtn_keepsInv (h : s.InService) (hw : s.data.written) : Ensures State.Inv (accumulateAtn s) := by
  unfold accumulateAtn
  split
  · exact h.exit_idle (.inl rfl)
  · exact ensures_goto.mpr (h.goto rfl hw)

/-- A new string within CMD_MAX leaves the record whole (R38). -/
theorem State.InService.withContent (h : s.InService) {str : List Byte} (hlen : str.length ≤ s.params.cmdMax) :
    State.InService { s with data := { s.data with content := some str } } :=
  h.withRecord rfl h.inside.record.device fun c hc => by cases hc; exact hlen

/-- A byte is appended only below CMD_MAX (R206, R280). -/
theorem accumulateByte_keepsInv (h : s.InService) (hw : s.data.written) (c : Byte) :
    Ensures State.Inv (accumulateByte c s) := by
  obtain ⟨hdev, hcmd, hch, _⟩ := id hw
  unfold accumulateByte
  split
  · exact ensures_goto.mpr (h.goto rfl hw)
  split
  · exact ensures_goto.mpr (h.goto rfl hw)
  refine ensures_readField fun str hstr => ?_
  split
  · exact h.setError.exit_idle (.inr (.inl rfl))
  · rename_i hne
    have hlen : (str ++ [c]).length ≤ s.params.cmdMax := by
      have hle := h.inside.record.content str hstr
      rw [List.length_append, List.length_singleton]
      omega
    exact ensures_goto.mpr ((h.withContent hlen).goto rfl ⟨hdev, hcmd, hch, rfl⟩)

theorem length_trimPad_le (str : List Byte) : (trimPad str).length ≤ str.length := by
  unfold trimPad
  split
  · exact (List.dropLast_sublist str).length_le
  · exact le_rfl

theorem accumulateEnd_keepsInv (h : s.InService) (hw : s.data.written) : Ensures State.Inv (accumulateEnd s) := by
  obtain ⟨hdev, hcmd, hch, _⟩ := hw
  refine ensures_readField fun str hstr => ?_
  have hlen := (length_trimPad_le str).trans (h.inside.record.content str hstr)
  exact exitByContent_keepsInv (h.withContent hlen) ⟨hdev, hcmd, hch, rfl⟩

/-- The wait of turnaround, at its call and at its own step (R220, R221). -/
theorem turnaroundWait_keepsInv (h : s.InService) (hw : s.data.written) :
    Ensures State.Inv
      (waitUntil .CLOCK .RELEASED (goto .TA_REL_DATA) (exitService .ERROR) { s with ctl := .TA_WAIT }) := by
  refine ensures_waitUntil (h.goto rfl hw) (ensures_goto.mpr (h.goto rfl hw)) fun rest => ?_
  exact State.InService.exit_idle ⟨(h.inside.withCtl .TA_WAIT).timedOut rest, h.phase⟩ (.inr (.inl rfl))

/-! ### Releasing the lines, and returning (R255) -/

/-- A bus-idle transition returns with every line idle (R255). -/
theorem State.Inside.busIdle_ready (h : s.Inside) (hl : s.lines = .idle) {r : Option Result} {pc : Nat} :
    State.Inv { s.busIdle with ctl := .READY, busy := false, r := r, pc := pc } :=
  h.busIdle.ready fun _ => hl

theorem releaseReturns_keepsInv (h : s.Inside) (hl : s.lines = .idle) : Ensures State.Inv (releaseReturns s) :=
  ensures_next.mpr (h.busIdle_ready hl)

theorem undoReturns_keepsInv (h : s.Inside) (hp : s.phase = .TALK) (ok : Bool) : Ensures State.Inv (undoReturns ok s) :=
  ensures_next.mpr ((h.talkDone hp).ready nofun)

/-! ### Byte transactions (R130 to R138) -/

/-- A byte transaction that has ended leaves no level-L handshake. -/
theorem State.Inv.shake_idle_of_ended {u : State} (h : s.Inv)
    (hu : u.shake = .idle ∨ s.params.byteLevel = .T ∧ u.shake = s.shake) : u.shake = .idle := by
  rcases hu with hu | ⟨hl, hu⟩
  · exact hu
  · exact hu.trans (h.shake_idle_of_T hl)

theorem Handshake.keeps_shakeInPlace {u : State} (hu : Handshake s u) (hs : u.shake = s.shake) (h : shakeInPlace s) :
    shakeInPlace u := by
  unfold shakeInPlace at h ⊢
  rwa [hs, hu.params, hu.ctl]

theorem afterRx_keepsInv (h : s.Inv) (hr : s.ctl.receives = true) (hs : s.shake = .idle) (v : Word16) :
    Ensures State.Inv (afterRx v s) := by
  cases hc : s.ctl with
  | SV_PRIMARY =>
    have hin := h.inService hc rfl hs
    simp only [afterRx, hc]
    split
    · exact hin.exit_idle (.inr (.inl rfl))
    · exact ensures_goto.mpr (hin.goto rfl trivial)
  | SV_SECONDARY =>
    have hin := h.inService hc rfl hs
    obtain ⟨hdev, hprim⟩ := h.writtenAt hc
    simp only [afterRx, hc]
    split
    · exact hin.exit_idle (.inr (.inl rfl))
    · exact atnSecondary_keepsInv hin hdev hprim _ _
  | SV_ACC_RX =>
    have hin := h.inService hc rfl hs
    simp only [afterRx, hc]
    split
    · exact hin.exit_idle (.inr (.inl rfl))
    · exact accumulateByte_keepsInv hin (h.writtenAt hc) _
  | OP_RECV d =>
    have hphase : s.phase = .LISTEN := h.phaseAt hc
    simp only [afterRx, hc]
    exact ensures_next.mpr ((h.inside (by simp [hc]) hs).ready fun hp => by simp [hphase] at hp)
  | _ => simp [hc, Ctl.receives] at hr

theorem rxStep_keepsInv (h : s.Inv) (hr : s.ctl.receives = true) : Ensures State.Inv (rxStep s) := by
  refine ensures_rxStep (fun u v hu hshake => ?_) fun u hu hshake => ?_
  · have hs := h.shake_idle_of_ended hshake
    have hinv := h.handshake hu (.inl hr) (by simp [shakeInPlace, hs])
    exact afterRx_keepsInv hinv (hu.ctl ▸ hr) hs v
  · refine h.handshake hu (.inl hr) ?_
    rcases hshake with hs | ⟨hl, p, e, a, hs⟩
    · exact hu.keeps_shakeInPlace hs h.shakeFits
    · simp [shakeInPlace, hs, hu.params, hu.ctl, hl, hr]

/-- At a step of a caller's send the phase is TALK (R51). -/
theorem State.Inv.phase_of_transmits (h : s.Inv) (ht : s.ctl.transmits = true) : s.phase = .TALK := by
  cases hc : s.ctl with
  | OP_SEND _ | OP_SENDS _ | OP_SENDEOI _ => exact h.phaseAt hc
  | _ => simp [hc, Ctl.transmits] at ht

theorem afterTx_keepsInv (h : s.Inv) (ht : s.ctl.transmits = true) (hs : s.shake = .idle) (ok : Bool) :
    Ensures State.Inv (afterTx ok s) := by
  have hphase := h.phase_of_transmits ht
  have hin : s.Inside := h.inside (by intro hc; simp [hc, Ctl.transmits] at ht) hs
  have hreturn : ∀ r pc, State.Inv { s with ctl := .READY, busy := false, r := r, pc := pc } :=
    fun r pc => hin.ready fun hp => by simp [hphase] at hp
  cases hc : s.ctl with
  | OP_SEND b =>
    simp only [afterTx, hc]
    exact ensures_next.mpr (hreturn _ _)
  | OP_SENDS n =>
    simp only [afterTx, hc]
    split
    · rename_i hmore
      simp only [Bool.and_eq_true, decide_eq_true_eq] at hmore
      obtain ⟨_, hlt⟩ := hmore
      refine ensures_goto.mpr (hin.goto ⟨nofun, rfl, hphase, trivial, trivial, trivial, fun m hm => ?_⟩)
      cases hm
      exact hlt
    · exact ensures_next.mpr (hreturn _ _)
  | OP_SENDEOI b =>
    simp only [afterTx, hc]
    split
    · exact ensures_goto.mpr (hin.goto ⟨nofun, rfl, hphase, trivial, trivial, trivial, nofun⟩)
    · exact ensures_next.mpr ((hin.talkDone hphase).ready nofun)
  | _ => simp [hc, Ctl.transmits] at ht

theorem txStep_keepsInv (h : s.Inv) (ht : s.ctl.transmits = true) (b : Byte) (last : Bool) :
    Ensures State.Inv (txStep b last s) := by
  refine ensures_txStep (fun u ok hu hshake => ?_) fun u hu hshake => ?_
  · have hs := h.shake_idle_of_ended hshake
    have hinv := h.handshake hu (.inr ht) (by simp [shakeInPlace, hs])
    exact afterTx_keepsInv hinv (hu.ctl ▸ ht) hs ok
  · refine h.handshake hu (.inr ht) ?_
    rcases hshake with hs | ⟨hl, p, hs⟩
    · exact hu.keeps_shakeInPlace hs h.shakeFits
    · simp [shakeInPlace, hs, hu.params, hu.ctl, hl, ht]

theorem rxb_own_keepsInv (h : s.Inv) {d : Byte} (hu : s.unitOp = some (.rxb d)) (hr : s.ctl.receives = true) :
    Ensures State.Inv (unitTurn s) :=
  own_ensures hu rfl (ensures_stickyCheck (h.addFault _) (rxStep_keepsInv h hr))

theorem txb_own_keepsInv (h : s.Inv) {b : Byte} {last : Bool} (hu : s.unitOp = some (.txb b last))
    (ht : s.ctl.transmits = true) : Ensures State.Inv (unitTurn s) :=
  own_ensures hu rfl (ensures_stickyCheck (h.addFault _) (txStep_keepsInv h ht b last))

theorem atn_own_keepsInv (h : s.Inv) {b : Byte} (hc : s.ctl = .SV_DECODE1 b) : Ensures State.Inv (unitTurn s) := by
  have hu : s.unitOp = some (decodeAtn b) := by rw [State.unitOp, hc]
  have hin := h.inService hc rfl (h.shake_idle (by rw [hc]; rfl) (by rw [hc]; rfl))
  obtain ⟨cmd, b', he⟩ := exec_atn (decodeAtn_isOperation b) s
  rw [unitTurn_own hu, he, atnCode, hc]
  exact atnPrimary_keepsInv hin cmd b'

/-! ### The procedures' own steps -/

/-- At a step of no byte transaction the registers are sound and no handshake is under way. -/
theorem State.Inv.insideAt (h : s.Inv) {c : Ctl} (hc : s.ctl = c) (hr : c ≠ .READY)
    (hb : (c.receives || c.transmits) = false) : s.Inside := by
  rw [Bool.or_eq_false_iff, ← hc] at hb
  exact h.inside (hc ▸ hr) (h.shake_idle hb.1 hb.2)

theorem State.Inv.inServiceAt (h : s.Inv) {c : Ctl} (hc : s.ctl = c) (hs : c.isServiceStep = true)
    (hb : (c.receives || c.transmits) = false) : s.InService := by
  have hin : s.Inside := h.insideAt hc (by rintro rfl; cases hs) hb
  exact h.inService hc hs hin.shake

/-- The release steps end with every line idle (R255). -/
theorem State.Inv.lines_idle (h : s.Inv) (hr : s.lines.clock = .idle ∧ s.lines.data = .idle) : s.lines = .idle :=
  h.lines.eq_idle hr.1 hr.2

theorem serviceStep_keepsInv (h : s.Inv) : Ensures State.Inv (serviceStep s) := by
  cases hc : s.ctl with
  | SV_ENTRY_CLK =>
    simp only [serviceStep, hc]
    exact ensures_goto.mpr
      (((h.insideAt hc nofun rfl).release .CLOCK).goto ⟨nofun, rfl, trivial, trivial, trivial, trivial, nofun⟩)
  | SV_INIT =>
    simp only [serviceStep, hc]
    exact serviceInit_keepsInv (h.insideAt hc nofun rfl)
  | SV_RESET_CHECK =>
    simp only [serviceStep, hc]
    exact serviceResetCheck_keepsInv (h.inServiceAt hc rfl rfl)
  | SV_GATE =>
    simp only [serviceStep, hc]
    exact serviceGate_keepsInv (h.inServiceAt hc rfl rfl)
  | SV_DISPATCH =>
    simp only [serviceStep, hc]
    exact serviceDispatch_keepsInv (h.inServiceAt hc rfl rfl) (h.writtenAt hc).1
  | SV_LISTEN =>
    simp only [serviceStep, hc]
    exact serviceListen_keepsInv (h.inServiceAt hc rfl rfl) (h.writtenAt hc)
  | SV_ACC_ATN =>
    simp only [serviceStep, hc]
    exact accumulateAtn_keepsInv (h.inServiceAt hc rfl rfl) (h.writtenAt hc)
  | SV_ACC_END =>
    simp only [serviceStep, hc]
    exact accumulateEnd_keepsInv (h.inServiceAt hc rfl rfl) (h.writtenAt hc)
  | SV_EXIT_RELEASE S =>
    simp only [serviceStep, hc]
    exact ensures_next.mpr ((h.insideAt hc nofun rfl).busIdle_ready (h.lines_idle (h.releasedAt hc)))
  | _ =>
    simp only [serviceStep, hc]
    exact ensures_refused _

theorem turnaroundStep_keepsInv (h : s.Inv) : Ensures State.Inv (turnaroundStep s) := by
  cases hc : s.ctl with
  | SV_TA | TA_WAIT =>
    simp only [turnaroundStep, hc]
    exact turnaroundWait_keepsInv (h.inServiceAt hc rfl rfl) (h.writtenAt hc)
  | TA_D1 =>
    simp only [turnaroundStep, hc]
    have hw := h.writtenAt hc
    exact ensures_goto.mpr ((h.inServiceAt hc rfl rfl).goto rfl hw)
  | TA_D2 =>
    simp only [turnaroundStep, hc]
    exact (h.inServiceAt hc rfl rfl).exit fun _ => h.writtenAt hc
  | _ =>
    simp only [turnaroundStep, hc]
    exact ensures_refused _

/-- The steps of a data-phase operation that is no byte transaction stay in phase TALK (R51). -/
theorem State.Inside.goto_talk (h : s.Inside) (hp : s.phase = .TALK) {c : Ctl} (hc : c = .UT_D1 ∨ c = .UT_REL_CLK ∨
    c = .UT_D2 ∨ c = .UT_WAIT ∨ c = .FNF_REL_CLK ∨ c = .FNF_DELAY) : State.Inv { s with ctl := c } := by
  refine h.goto ?_
  rcases hc with rfl | rfl | rfl | rfl | rfl | rfl <;> exact ⟨nofun, rfl, hp, trivial, trivial, trivial, nofun⟩

theorem undoTurnaroundStep_keepsInv (h : s.Inv) : Ensures State.Inv (undoTurnaroundStep s) := by
  cases hc : s.ctl with
  | UT_PULL_DATA =>
    simp only [undoTurnaroundStep, hc]
    exact ensures_goto.mpr ((h.insideAt hc nofun rfl).pullData.goto_talk (h.phaseAt hc) (by simp))
  | UT_D1 | UT_D2 =>
    simp only [undoTurnaroundStep, hc]
    exact ensures_goto.mpr ((h.insideAt hc nofun rfl).goto_talk (h.phaseAt hc) (by simp))
  | UT_WAIT =>
    have hin := h.insideAt hc nofun rfl
    simp only [undoTurnaroundStep, hc]
    exact ensures_waitUntil h (undoReturns_keepsInv hin (h.phaseAt hc) true) fun rest =>
      undoReturns_keepsInv (hin.timedOut rest) (h.phaseAt hc) false
  | _ =>
    simp only [undoTurnaroundStep, hc]
    exact ensures_refused _

/-- The first release of a line release, of either caller (R198, R254). -/
theorem State.Inv.releaseClock (h : s.Inv) {k : AfterRelease} (hc : s.ctl = .RL_CLK k) :
    State.Inv { s.release .CLOCK with ctl := .RL_DATA k } := by
  have hphase := h.phaseAt hc
  have hexit := h.exitFits
  rw [hc] at hexit
  refine ((h.insideAt hc nofun rfl).release .CLOCK).goto ?_
  cases k <;> exact ⟨nofun, rfl, hphase, rfl, hexit, trivial, nofun⟩

theorem releaseLinesStep_keepsInv (h : s.Inv) : Ensures State.Inv (releaseLinesStep s) := by
  cases hc : s.ctl with
  | RL_CLK k =>
    simp only [releaseLinesStep, hc]
    exact ensures_goto.mpr (h.releaseClock hc)
  | RL_WAIT w =>
    have hin := h.insideAt hc nofun rfl
    have hidle := h.lines_idle (h.releasedAt hc)
    cases w with
    | false =>
      simp only [releaseLinesStep, hc]
      exact releaseReturns_keepsInv hin hidle
    | true =>
      simp only [releaseLinesStep, hc]
      exact ensures_waitUntil h (releaseReturns_keepsInv hin hidle) fun rest =>
        releaseReturns_keepsInv (hin.timedOut rest) hidle
  | _ =>
    simp only [releaseLinesStep, hc]
    exact ensures_refused _

theorem sendFnfStep_keepsInv (h : s.Inv) : Ensures State.Inv (sendFnfStep s) := by
  cases hc : s.ctl with
  | FNF_REL_DATA =>
    simp only [sendFnfStep, hc]
    exact ensures_goto.mpr (((h.insideAt hc nofun rfl).release .DATA).goto_talk (h.phaseAt hc) (by simp))
  | FNF_DELAY =>
    simp only [sendFnfStep, hc]
    exact ensures_next.mpr (((h.insideAt hc nofun rfl).talkDone (h.phaseAt hc)).ready nofun)
  | _ =>
    simp only [sendFnfStep, hc]
    exact ensures_refused _

/-! ### The line actions (R120, R122) -/

/-- Which lines are idle once a release step has acted (R255). -/
def releasedAfter (c : Ctl) (u : UnitLines) : Prop :=
  match c with
  | .RL_CLK _ => u.clock = .idle
  | .RL_DATA _ | .RL_ATN _ | .RL_SRQ _ => u.clock = .idle ∧ u.data = .idle
  | _ => True

/-- A line action that leaves the unit's lines at `u` goes on to a step that fits. -/
theorem afterLine_keepsInv (h : s.Inv) {u : UnitLines} (hin : State.Inside { s with lines := u })
    (hr : releasedAfter s.ctl u) : Ensures State.Inv (afterLine { s with lines := u }) := by
  have ht := h.notTransient
  have hexit := h.exitFits
  cases hc : s.ctl with
  | SV_ENTRY_CLK | SV_ENTRY_DATA =>
    simp only [afterLine]
    exact ensures_goto.mpr (hin.goto ⟨nofun, rfl, trivial, trivial, trivial, trivial, nofun⟩)
  | TA_REL_DATA | TA_PULL_CLK =>
    simp only [afterLine]
    have hw := h.writtenAt hc
    exact ensures_goto.mpr (hin.goto (Ctl.isServiceStep_fits rfl (h.phaseAt hc) hw))
  | UT_PULL_DATA | UT_REL_CLK | FNF_REL_DATA | FNF_REL_CLK =>
    simp only [afterLine]
    exact ensures_goto.mpr (hin.goto_talk (h.phaseAt hc) (by simp))
  | RL_CLK k | RL_DATA k | RL_ATN k | RL_SRQ k =>
    have hphase := h.phaseAt hc
    rw [hc] at hr hexit
    cases k <;> simp only [afterLine] <;>
      exact ensures_goto.mpr (hin.goto ⟨nofun, rfl, hphase, hr, hexit, trivial, nofun⟩)
  | OP_PULL l | OP_REL l =>
    rw [hc] at ht
    cases ht
  | _ =>
    simp only [afterLine]
    exact ensures_refused _

theorem rel_own_keepsInv (h : s.Inv) (hin : s.Inside) {l : Line} {d : DLine} (hu : s.unitOp = some (.rel l))
    (hl : lineDrivable l = some d) (hr : releasedAfter s.ctl (s.lines.put d .idle)) : Ensures State.Inv (unitTurn s) := by
  refine own_ensures hu rfl ?_
  rw [onDrivable, hl]
  exact afterLine_keepsInv h (hin.release d) hr

theorem pull_own_keepsInv (h : s.Inv) {l : Line} {d : DLine} (hu : s.unitOp = some (.pull l))
    (hl : lineDrivable l = some d) (hin : (s.pull d).Inside) (hr : releasedAfter s.ctl (s.lines.put d .pulled)) :
    Ensures State.Inv (unitTurn s) := by
  refine own_ensures hu rfl ?_
  rw [onDrivable, hl]
  exact afterLine_keepsInv h hin hr

/-- Inside an operation the unit's turn keeps the invariant. -/
theorem unitTurn_inside_keepsInv (h : s.Inv) (hr : s.ctl ≠ .READY) : Ensures State.Inv (unitTurn s) := by
  cases hc : s.ctl with
  | READY => exact absurd hc hr
  | SV_ENTRY_CLK | TA_REL_DATA | UT_REL_CLK | FNF_REL_DATA | FNF_REL_CLK =>
    exact rel_own_keepsInv h (h.insideAt hc nofun rfl) (by rw [State.unitOp, hc]) rfl (by rw [hc]; trivial)
  | RL_CLK k =>
    exact rel_own_keepsInv h (h.insideAt hc nofun rfl) (by rw [State.unitOp, hc]) rfl (by rw [hc]; rfl)
  | RL_DATA k =>
    have hclock : s.lines.clock = .idle := h.releasedAt hc
    exact rel_own_keepsInv h (h.insideAt hc nofun rfl) (by rw [State.unitOp, hc]) rfl (by rw [hc]; exact ⟨hclock, rfl⟩)
  | RL_ATN k | RL_SRQ k =>
    have hreleased := h.releasedAt hc
    exact rel_own_keepsInv h (h.insideAt hc nofun rfl) (by rw [State.unitOp, hc]) rfl (by rw [hc]; exact hreleased)
  | SV_ENTRY_DATA =>
    exact pull_own_keepsInv h (by rw [State.unitOp, hc]) rfl (h.insideAt hc nofun rfl).pullData (by rw [hc]; trivial)
  | TA_PULL_CLK =>
    exact pull_own_keepsInv h (by rw [State.unitOp, hc]) rfl (h.insideAt hc nofun rfl).pullClock (by rw [hc]; trivial)
  | SV_INIT | SV_RESET_CHECK | SV_GATE | SV_DISPATCH | SV_LISTEN | SV_ACC_ATN | SV_ACC_END | SV_EXIT_RELEASE S =>
    exact own_ensures (by rw [State.unitOp, hc]) rfl (serviceStep_keepsInv h)
  | SV_TA | TA_WAIT | TA_D1 | TA_D2 => exact own_ensures (by rw [State.unitOp, hc]) rfl (turnaroundStep_keepsInv h)
  | UT_PULL_DATA | UT_D1 | UT_D2 | UT_WAIT =>
    exact own_ensures (by rw [State.unitOp, hc]) rfl (undoTurnaroundStep_keepsInv h)
  | RL_WAIT w => exact own_ensures (by rw [State.unitOp, hc]) rfl (releaseLinesStep_keepsInv h)
  | FNF_DELAY => exact own_ensures (by rw [State.unitOp, hc]) rfl (sendFnfStep_keepsInv h)
  | SV_DECODE1 b => exact atn_own_keepsInv h hc
  | SV_PRIMARY | OP_RECV d => exact rxb_own_keepsInv h (by rw [State.unitOp, hc]) (by rw [hc]; rfl)
  | SV_SECONDARY | SV_ACC_RX =>
    obtain ⟨d, hd⟩ := rxbOfDevice_isSome (h.writtenAt hc).1
    exact rxb_own_keepsInv h (by rw [State.unitOp, hc, hd]) (by rw [hc]; rfl)
  | OP_SEND b | OP_SENDEOI b => exact txb_own_keepsInv h (by rw [State.unitOp, hc]) (by rw [hc]; rfl)
  | OP_SENDS n =>
    have hb := List.getElem?_eq_getElem (h.sendsInside n hc)
    exact txb_own_keepsInv h (by simp only [State.unitOp, hc, hb]; rfl) (by rw [hc]; rfl)
  | OP_PULL _ | OP_REL _ | OP_MODE _ _ | OP_STATUS _ | OP_RXB _ | OP_TXB _ _ | OP_ISEN _ | OP_EN _ | OP_DIS _ =>
    have ht := h.notTransient
    rw [hc] at ht
    cases ht

/-! ### Issuing an operation at READY -/

/-- An issued operation faults, which keeps the invariant, or takes its first step. -/
theorem issued_keepsInv (h : s.Inv) (hc : s.ctl = .READY) {i : Instr} {a : Admission} {c : Ctl} {k : State → Out}
    (hk : a.contract = true → a.args = true → Ensures State.Inv (k { s with ctl := c, busy := true })) :
    Ensures State.Inv (operate i a c k s) := by
  refine ensures_operate h.addFault (fun hu => ?_) fun _ hcontract hargs _ => hk hcontract hargs
  simp [State.unitOp, hc] at hu

/-- An issued operation at a control state that fits is inside the operation with the invariant. -/
theorem State.Inv.issue (h : s.Inv) (hc : s.ctl = .READY) {c : Ctl} (hfits : c.Fits s) :
    State.Inv { s with ctl := c, busy := true } := by
  obtain ⟨hready, htransient, hphase, hreleased, hexit, hwritten, hsends⟩ := hfits
  exact (h.issued hc c).goto ⟨hready, htransient, hphase, hreleased, hexit, hwritten, hsends⟩

/-- A first step that keeps the invariant, from a control state that fits, makes the issue keep it. -/
theorem issuedAt_keepsInv (h : s.Inv) (hc : s.ctl = .READY) {i : Instr} {a : Admission} {c : Ctl} {k : State → Out}
    (hfits : a.contract = true → c.Fits s)
    (hk : ∀ t : State, t.Inv → t.ctl = c → Ensures State.Inv (k t)) : Ensures State.Inv (operate i a c k s) :=
  issued_keepsInv h hc fun hcontract _ => hk _ (h.issue hc (hfits hcontract)) rfl

/-- An operation of one step that writes `r` or the Enabled-Device Set returns to READY as it was (R128, R250 to R252). -/
theorem State.Inv.returned (h : s.Inv) (hc : s.ctl = .READY) (r : Option Result) (e : BitVec 31) (pc : Nat) :
    State.Inv { s with ctl := .READY, busy := false, r := r, enabled := e, pc := pc } := by
  obtain ⟨hflags, hlines, hrecord, hbusy, hshake⟩ := h.issued hc .READY
  have hin : State.Inside { s with ctl := .READY, busy := true, enabled := e } :=
    ⟨hflags, hlines, hrecord, hbusy, hshake⟩
  exact hin.ready (h.releasedAt hc)

/-- At READY in phase NONE the only mode a caller may write is the one the line has (R27, R126). -/
theorem setPinMode_idle {d : DLine} {m : PinMode} (hidle : s.lines = .idle)
    (hm : ¬ (m = .OUTPUT ∧ (s.lines.get d).drive = .RELEASED)) : (s.setPinMode d m).lines = .idle := by
  rw [setPinMode_lines, hidle]
  rw [hidle] at hm
  cases m with
  | INPUT => cases d <;> rfl
  | OUTPUT => cases d <;> exact absurd ⟨rfl, rfl⟩ hm

/-- What R126 admits: phase NONE, and no line driven to its idle level. -/
theorem modeAdmission_contract {l : Line} {d : DLine} {m : PinMode} (hl : lineDrivable l = some d)
    (ha : (s.modeAdmission l m).contract = true) :
    s.phase = .NONE ∧ ¬ (m = .OUTPUT ∧ (s.lines.get d).drive = .RELEASED) := by
  simpa [State.modeAdmission, State.wouldDriveIdle, hl, imp_iff_not_or] using ha

theorem mode_issued_keepsInv (h : s.Inv) (hc : s.ctl = .READY) (l : Line) (m : PinMode) :
    Ensures State.Inv (exec (.mode l m) s) := by
  refine issued_keepsInv h hc fun hcontract hargs => ?_
  obtain ⟨d, hl⟩ := Option.isSome_iff_exists.mp hargs
  obtain ⟨hphase, hm⟩ := modeAdmission_contract hl hcontract
  have hreleased : s.phase = .NONE → s.lines = .idle := h.releasedAt hc
  have hidle := setPinMode_idle (hreleased hphase) hm
  have hsound : (s.setPinMode d m).lines.Sound := by
    rw [hidle]
    exact ⟨rfl, rfl, .inl rfl, .inl rfl⟩
  rw [onDrivable, hl]
  exact ensures_next.mpr (((h.issued hc _).withLines hsound).ready fun _ => hidle)

/-- The issue of an operation keeps the invariant. -/
theorem exec_issued_keepsInv (h : s.Inv) (hc : s.ctl = .READY) {i : Instr} (hi : i.isOperation = true) :
    Ensures State.Inv (exec i s) := by
  cases i with
  | pull | rel | rxb | txb | turnaround | undoTurnaround => exact issued_keepsInv h hc fun hcontract => nomatch hcontract
  | mode l m => exact mode_issued_keepsInv h hc l m
  | stat | isen | en | dis =>
    simp only [exec, execStat, execIsen, execEn, execDis]
    exact issued_keepsInv h hc fun _ _ => ensures_next.mpr (h.returned hc _ _ _)
  | service =>
    exact issuedAt_keepsInv h hc (fun _ => ⟨nofun, rfl, trivial, trivial, trivial, trivial, nofun⟩) fun t ht _ =>
      serviceStep_keepsInv ht
  | rell w =>
    exact issuedAt_keepsInv h hc (fun _ => ⟨nofun, rfl, trivial, trivial, trivial, trivial, nofun⟩) fun t ht _ =>
      releaseLinesStep_keepsInv ht
  | sendfnf =>
    refine issuedAt_keepsInv h hc (fun ha => ?_) fun t ht _ => sendFnfStep_keepsInv ht
    have hphase : s.phase = .TALK := of_decide_eq_true ha
    exact ⟨nofun, rfl, hphase, trivial, trivial, trivial, nofun⟩
  | send b | sendeoi b =>
    refine issuedAt_keepsInv h hc (fun ha => ?_) fun t ht htc => txStep_keepsInv ht (htc ▸ rfl) _ _
    have hphase : s.phase = .TALK := of_decide_eq_true ha
    exact ⟨nofun, rfl, hphase, trivial, trivial, trivial, nofun⟩
  | recv d has =>
    refine issuedAt_keepsInv h hc (fun ha => ?_) fun t ht htc => rxStep_keepsInv ht (htc ▸ rfl)
    have hphase : s.phase = .LISTEN := of_decide_eq_true ha
    exact ⟨nofun, rfl, hphase, trivial, trivial, trivial, nofun⟩
  | sends =>
    refine issued_keepsInv h hc fun hcontract _ => ?_
    have hphase : s.phase = .TALK := of_decide_eq_true hcontract
    simp only [sendsStep]
    split
    · rename_i b hb
      have hlen : 0 < s.callerString.length := (List.getElem?_eq_some_iff.mp hb).1
      have hfits : Ctl.Fits (.OP_SENDS 0) s :=
        ⟨nofun, rfl, hphase, trivial, trivial, trivial, fun n hn => by cases hn; exact hlen⟩
      exact txStep_keepsInv (h.issue hc hfits) rfl b false
    · exact ensures_next.mpr (h.returned hc _ _ _)
  | _ => cases hi

/-! ### Every step -/

theorem unitTurn_keepsInv (h : s.Inv) : Ensures State.Inv (unitTurn s) := by
  by_cases hc : s.ctl = .READY
  · intro t ht
    rcases unitTurn_next_cases ht with ⟨i, hf, he⟩ | ⟨_, rfl | rfl | ⟨n, rfl⟩⟩
    · rcases fetch_run_cases hf with ⟨_, w, _, _, hd⟩ | ⟨hr, _⟩
      · exact exec_issued_keepsInv h hc (decodeOp_isOperation hd) t he
      · exact absurd hc hr
    · exact h
    · exact h.addFault _
    · exact h.withPc hc n
  · exact unitTurn_inside_keepsInv h hc

theorem step_keepsInv (h : s.Inv) : Ensures State.Inv (step s) := by
  intro t ht
  rcases step_next_cases ht with ⟨_, ⟨l, v, rest, _, rfl⟩ | ⟨w, rest, _, _, rfl⟩ | ⟨rest, _, hu⟩ | hu⟩
  · exact (h.withHost _).withScript rest
  · exact (h.addFault _).withScript rest
  · exact unitTurn_keepsInv (h.withScript rest) t hu
  · exact unitTurn_keepsInv h t hu

/-- R27, R300: right after construction the unit is at rest at READY in phase NONE. -/
theorem construct_inv (p : Params) (x : HostLines) : (State.construct p x).Inv where
  flagsReserved := by simp [State.construct]
  busyIff := by simp [State.construct]
  atnIdle := rfl
  srqIdle := rfl
  clockLegal := .inl rfl
  dataLegal := .inl rfl
  notTransient := rfl
  phaseFits := trivial
  idleAtRest := fun _ => rfl
  exitFits := trivial
  deviceRange := nofun
  contentBound := nofun
  validIff := by simp [State.construct]
  validWritten := nofun
  recordWritten := trivial
  shakeFits := trivial
  sendsInside := nofun

end Sys2Proof.Machine

open Sys2Proof Sys2Proof.Machine

/-- Settles O49: each turn of the script keeps the invariant, and the unit's turn does at READY and inside an operation. -/
theorem everyStepKeepsTheInvariant : Obligations.EveryStepKeepsTheInvariant :=
  fun _ t h ht => step_keepsInv h t ht

/-- Settles O50: the state after construction meets each clause of the invariant. -/
theorem constructionHasTheInvariant : Obligations.ConstructionHasTheInvariant := construct_inv

end

section
/-! What the unit never changes, and what it only adds to: the host's lines and the parameters (R25, R49), the Enabled-Device
Set outside EN and DIS (R42), the recorded faults (R285), and ERROR outside SV_INIT (R31); O52 to O55. -/

namespace Sys2Proof.Machine

/-- The host's lines, the parameters and the Enabled-Device Set are kept, no recorded fault is removed and ERROR is not
cleared. -/
structure Frame (s t : State) : Prop where
  host : t.host = s.host
  params : t.params = s.params
  enabled : t.enabled = s.enabled
  faults : ∀ x, s.faults.has x = true → t.faults.has x = true
  error : s.error = true → t.error = true

theorem Frame.refl (s : State) : Frame s s := ⟨rfl, rfl, rfl, fun _ => id, id⟩

variable {s u : State}

/-- The fields of which `Frame` does not speak. -/
theorem Frame.moved (h : Frame s u) {lines : UnitLines} {data : DataRec} {ctl : Ctl} {prim : Option Prim}
    {r : Option Result} {phase : Phase} {busy : Bool} {pc : Nat} {script : List Turn} {shake : Shake} {draws : Nat} :
    Frame s { u with
      lines := lines, data := data, ctl := ctl, prim := prim, r := r, phase := phase, busy := busy, pc := pc
      script := script, shake := shake, draws := draws } :=
  ⟨h.host, h.params, h.enabled, h.faults, h.error⟩

theorem Frame.addFault (h : Frame s u) (x : FaultReason) : Frame s (u.addFault x) where
  host := h.host
  params := h.params
  enabled := h.enabled
  faults := fun y hy => by rw [addFault_faults, FaultSet.has_add, h.faults y hy, Bool.true_or]
  error := h.error

theorem Frame.setError (h : Frame s u) : Frame s u.setError :=
  ⟨h.host, h.params, h.enabled, h.faults, fun _ => setError_error u⟩

theorem Frame.handshake {v : State} (h : Frame s u) (hv : Handshake u v) : Frame s v where
  host := hv.host.trans h.host
  params := hv.params.trans h.params
  enabled := hv.enabled.trans h.enabled
  faults := fun x hx => by rw [hv.faults]; exact h.faults x hx
  error := fun he => hv.error (h.error he)

/-! ### The procedures -/

theorem Frame.goto (h : Frame s u) (c : Ctl) : Ensures (Frame s) (goto c u) := ensures_goto.mpr h.moved

theorem Frame.exit (h : Frame s u) (S : BusState) : Ensures (Frame s) (exitService S u) :=
  ensures_exitService (fun _ => h.moved) fun _ => h.moved

theorem afterLine_frame (h : Frame s u) : Ensures (Frame s) (afterLine u) := by
  cases hc : u.ctl with
  | RL_SRQ k =>
    cases k <;> simp only [afterLine, hc] <;> exact h.goto _
  | SV_ENTRY_CLK | SV_ENTRY_DATA | TA_REL_DATA | TA_PULL_CLK | UT_PULL_DATA | UT_REL_CLK | RL_CLK | RL_DATA | RL_ATN
  | FNF_REL_DATA | FNF_REL_CLK =>
    simp only [afterLine, hc]
    exact h.goto _
  | OP_PULL | OP_REL =>
    simp only [afterLine, hc]
    exact ensures_next.mpr h.moved
  | _ =>
    simp only [afterLine, hc]
    exact ensures_refused _

theorem accumulateByte_frame (h : Frame s u) (c : Byte) : Ensures (Frame s) (accumulateByte c u) := by
  unfold accumulateByte
  split_ifs
  · exact h.goto _
  · exact h.goto _
  · refine ensures_readField fun str _ => ?_
    split_ifs
    · exact h.setError.exit _
    · exact ensures_goto.mpr h.moved

theorem atnPrimary_frame (h : Frame s u) (cmd : Cmd) (b : Byte) : Ensures (Frame s) (atnPrimary cmd b u) := by
  cases cmd with
  | UNLISTEN | UNTALK => exact Frame.exit h.moved .IDLE
  | GLOBAL | LISTEN | TALK | SECOND | CLOSE | OPEN | NONE => exact ensures_goto.mpr h.moved

theorem atnSecondary_frame (h : Frame s u) (cmd : Cmd) (b : Byte) : Ensures (Frame s) (atnSecondary cmd b u) :=
  ensures_goto.mpr h.moved

theorem atnCode_frame (h : Frame s u) (cmd : Cmd) (b : Byte) : Ensures (Frame s) (atnCode cmd b u) := by
  unfold atnCode
  split
  · exact atnPrimary_frame h cmd b
  · exact atnSecondary_frame h cmd b
  · exact accumulateByte_frame h b
  · exact ensures_refused _

theorem afterRx_frame (h : Frame s u) (v : Word16) : Ensures (Frame s) (afterRx v u) := by
  unfold afterRx
  split
  · split_ifs
    · exact h.exit _
    · exact h.goto _
  · split_ifs
    · exact h.exit _
    · exact atnSecondary_frame h _ _
  · split_ifs
    · exact h.exit _
    · exact accumulateByte_frame h _
  · exact ensures_next.mpr h.moved
  · exact ensures_next.mpr h.moved
  · exact ensures_refused _

theorem afterTx_frame (h : Frame s u) (ok : Bool) : Ensures (Frame s) (afterTx ok u) := by
  unfold afterTx
  split
  · exact ensures_next.mpr h.moved
  · split_ifs
    · exact h.goto _
    · exact ensures_next.mpr h.moved
  · split_ifs
    · exact h.goto _
    · exact ensures_next.mpr h.moved
  · exact ensures_next.mpr h.moved
  · exact ensures_refused _

theorem rxStep_frame (h : Frame s u) : Ensures (Frame s) (rxStep u) :=
  ensures_rxStep (fun _ v hv _ => afterRx_frame (h.handshake hv) v) fun _ hv _ => h.handshake hv

theorem txStep_frame (h : Frame s u) (b : Byte) (last : Bool) : Ensures (Frame s) (txStep b last u) :=
  ensures_txStep (fun _ ok hv _ => afterTx_frame (h.handshake hv) ok) fun _ hv _ => h.handshake hv

theorem sendsStep_frame (h : Frame s u) : Ensures (Frame s) (sendsStep u) := by
  unfold sendsStep
  split
  · rename_i n _
    cases u.callerString[n]? with
    | some b => exact txStep_frame h b false
    | none => exact ensures_next.mpr h.moved
  · exact ensures_refused _

theorem serviceGate_frame (h : Frame s u) : Ensures (Frame s) (serviceGate u) := by
  have hgate : ∀ p, Ensures (Frame s) (gateDevice p u) := by
    intro p
    refine ensures_readField fun d _ => ?_
    split_ifs
    · exact ensures_goto.mpr h.moved
    · exact h.exit _
  refine ensures_readField fun cmd _ => ?_
  cases cmd with
  | LISTEN | TALK => exact hgate _
  | GLOBAL | UNLISTEN | UNTALK | SECOND | CLOSE | OPEN | NONE => exact h.exit _

theorem serviceDispatch_frame (h : Frame s u) : Ensures (Frame s) (serviceDispatch u) :=
  ensures_readField fun p _ => by cases p <;> exact h.goto _

theorem exitByContent_frame (h : Frame s u) : Ensures (Frame s) (exitByContent u) :=
  ensures_readField fun _ _ => by split <;> exact h.exit _

theorem serviceListen_frame (h : Frame s u) : Ensures (Frame s) (serviceListen u) := by
  refine ensures_readField fun cmd _ => ?_
  cases cmd with
  | SECOND => exact ensures_readField fun _ _ => by split_ifs; exacts [h.goto _, h.exit _]
  | OPEN => exact h.goto _
  | CLOSE => exact h.exit _
  | LISTEN | TALK | GLOBAL | UNLISTEN | UNTALK | NONE => exact exitByContent_frame h

/-- The steps of `service` but SV_INIT. -/
theorem serviceStep_frame (h : Frame s u) (hc : u.ctl ≠ .SV_INIT) : Ensures (Frame s) (serviceStep u) := by
  unfold serviceStep
  split
  · exact ensures_goto.mpr h.moved
  · exact absurd ‹_› hc
  · unfold serviceResetCheck
    split_ifs
    · exact h.exit _
    · exact h.goto _
  · exact serviceGate_frame h
  · exact serviceDispatch_frame h
  · exact serviceListen_frame h
  · unfold accumulateAtn
    split_ifs
    · exact h.exit _
    · exact h.goto _
  · exact ensures_readField fun _ _ => exitByContent_frame h.moved
  · exact ensures_next.mpr h.moved
  · exact ensures_refused _

/-- A spin-wait, its holds and its timeout. -/
theorem waitUntil_frame (h : Frame s u) {l : Line} {v : Level} {seen late : State → Out}
    (hseen : ∀ t, Frame s t → Ensures (Frame s) (seen t)) (hlate : ∀ t, Frame s t → Ensures (Frame s) (late t)) :
    Ensures (Frame s) (waitUntil l v seen late u) :=
  ensures_waitUntil h (hseen u h) fun _ => hlate _ (Frame.setError h.moved)

theorem turnaroundStep_frame (h : Frame s u) : Ensures (Frame s) (turnaroundStep u) := by
  have hwait : Ensures (Frame s)
      (waitUntil .CLOCK .RELEASED (goto .TA_REL_DATA) (exitService .ERROR) { u with ctl := .TA_WAIT }) :=
    waitUntil_frame h.moved (fun _ ht => ht.goto _) fun _ ht => ht.exit _
  unfold turnaroundStep
  split
  · exact hwait
  · exact hwait
  · exact h.goto _
  · exact h.exit _
  · exact ensures_refused _

theorem undoTurnaroundStep_frame (h : Frame s u) : Ensures (Frame s) (undoTurnaroundStep u) := by
  have hreturns : ∀ ok t, Frame s t → Ensures (Frame s) (undoReturns ok t) := fun _ _ ht => ensures_next.mpr ht.moved
  unfold undoTurnaroundStep
  split
  · exact ensures_goto.mpr h.moved
  · exact h.goto _
  · exact h.goto _
  · exact waitUntil_frame h (hreturns true) (hreturns false)
  · exact ensures_refused _

theorem releaseLinesStep_frame (h : Frame s u) : Ensures (Frame s) (releaseLinesStep u) := by
  have hreturns : ∀ t, Frame s t → Ensures (Frame s) (releaseReturns t) := fun _ ht => ensures_next.mpr ht.moved
  unfold releaseLinesStep
  split
  · exact ensures_goto.mpr h.moved
  · exact waitUntil_frame h hreturns hreturns
  · exact hreturns u h
  · exact ensures_refused _

theorem sendFnfStep_frame (h : Frame s u) : Ensures (Frame s) (sendFnfStep u) := by
  unfold sendFnfStep
  split
  · exact ensures_goto.mpr h.moved
  · exact ensures_next.mpr h.moved
  · exact ensures_refused _

theorem onDrivable_frame (h : Frame s u) {l : Line} {k : DLine → State → Out}
    (hk : ∀ d, Ensures (Frame s) (k d u)) : Ensures (Frame s) (onDrivable l k u) := by
  unfold onDrivable
  split
  · exact hk _
  · exact ensures_raise.mpr (h.addFault _)

theorem stickyCheck_frame {k : State → Out} (h : Frame s u) (hk : Ensures (Frame s) (k u)) :
    Ensures (Frame s) (stickyCheck k u) := ensures_stickyCheck (h.addFault _) hk

/-! ### The instructions -/

/-- EN or DIS. -/
def WritesEnabled (i : Instr) : Prop := (∃ d, i = .en d) ∨ ∃ d, i = .dis d

/-- What an instruction does beyond `Frame`: EN and DIS write the Enabled-Device Set and return, SV_INIT of `service` clears the
flags. -/
def Writes (i : Instr) (s t : State) : Prop :=
  (WritesEnabled i ∧ ∃ e, t = State.finish { s with enabled := e }) ∨
  (s.ctl = .SV_INIT ∧ ∃ c, t = { s.busIdle with flags := 0#8, prim := none, ctl := c })

/-- An operation keeps the frame, issued or run, where its procedure does. -/
theorem operate_frame {i : Instr} {a : Admission} {c : Ctl} {k : State → Out}
    (hk : ∀ u, Frame s u → Ensures (Frame s) (k u)) : Ensures (Frame s) (operate i a c k s) :=
  ensures_operate (Frame.refl s).addFault (fun _ => hk s (.refl s)) fun _ _ _ _ => hk _ (Frame.refl s).moved

theorem Ensures.frame {i : Instr} {o : Out} (h : Ensures (Frame s) o) :
    Ensures (fun t => Frame s t ∨ Writes i s t) o := fun t ht => .inl (h t ht)

theorem execService_frame_cases (s : State) : Ensures (fun t => Frame s t ∨ Writes .service s t) (execService s) := by
  by_cases hc : s.ctl = .SV_INIT
  · have hu : s.unitOp = some .service := by rw [State.unitOp, hc]
    rw [execService, operate_own hu, serviceStep, hc]
    exact ensures_goto.mpr (.inr (.inr ⟨hc, _, rfl⟩))
  · refine (ensures_operate (Frame.refl s).addFault (fun _ => serviceStep_frame (.refl s) hc) fun _ _ _ _ => ?_).frame
    exact serviceStep_frame (Frame.refl s).moved nofun

/-- Everything an instruction can do to what the frame speaks of. -/
theorem exec_frame_cases (i : Instr) (s : State) : Ensures (fun t => Frame s t ∨ Writes i s t) (exec i s) := by
  by_cases hi : i.isOperation = true
  case neg =>
    obtain ⟨cmd, b, he⟩ := exec_atn (eq_false_of_ne_true hi) s
    rw [he]
    exact (atnCode_frame (.refl s) cmd b).frame
  case pos =>
  cases i with
  | pull l | rel l =>
    refine (operate_frame fun u hu => ?_).frame
    exact onDrivable_frame hu fun d => afterLine_frame hu.moved
  | mode l m =>
    refine (operate_frame fun u hu => ?_).frame
    exact onDrivable_frame hu fun d => ensures_next.mpr hu.moved
  | stat | isen =>
    simp only [exec, execStat, execIsen]
    exact (operate_frame fun u hu => ensures_next.mpr hu.moved).frame
  | rxb d => exact (operate_frame fun u hu => stickyCheck_frame hu (rxStep_frame hu)).frame
  | txb b last => exact (operate_frame fun u hu => stickyCheck_frame hu (txStep_frame hu b last)).frame
  | service => exact execService_frame_cases s
  | send b | sendeoi b => exact (operate_frame fun u hu => txStep_frame hu _ _).frame
  | sends => exact (operate_frame fun u hu => sendsStep_frame hu).frame
  | sendfnf => exact (operate_frame fun u hu => sendFnfStep_frame hu).frame
  | recv d has => exact (operate_frame fun u hu => rxStep_frame hu).frame
  | rell w => exact (operate_frame fun u hu => releaseLinesStep_frame hu).frame
  | turnaround => exact (operate_frame fun u hu => turnaroundStep_frame hu).frame
  | undoTurnaround => exact (operate_frame fun u hu => undoTurnaroundStep_frame hu).frame
  | en d =>
    simp only [exec, execEn]
    exact ensures_operate (fun x => .inl ((Frame.refl s).addFault x))
      (fun _ => ensures_next.mpr (.inr (.inl ⟨.inl ⟨d, rfl⟩, _, rfl⟩)))
      fun _ _ _ _ => ensures_next.mpr (.inr (.inl ⟨.inl ⟨d, rfl⟩, _, rfl⟩))
  | dis d =>
    simp only [exec, execDis]
    exact ensures_operate (fun x => .inl ((Frame.refl s).addFault x))
      (fun _ => ensures_next.mpr (.inr (.inl ⟨.inr ⟨d, rfl⟩, _, rfl⟩)))
      fun _ _ _ _ => ensures_next.mpr (.inr (.inl ⟨.inr ⟨d, rfl⟩, _, rfl⟩))
  | _ => cases hi

/-! ### The steps -/

/-- Everything a step can do to what the frame speaks of: an H_SET turn writes the host's lines, an instruction does what
`exec` does, after a `unit` turn with that turn used up, and any other step keeps the frame. -/
theorem step_frame_cases {t : State} (h : step s = .next t) :
    (∃ l v rest, s.script = .hSet l v :: rest ∧ t = { s.hostSet l v with script := rest }) ∨ Frame s t ∨
    (∃ i script, fetch { s with script := script } = .run i ∧ Writes i { s with script := script } t) := by
  have hunit : ∀ script, unitTurn { s with script := script } = .next t → Frame s t ∨
      ∃ i script, fetch { s with script := script } = .run i ∧ Writes i { s with script := script } t := by
    intro script hu
    have hs : Frame s { s with script := script } := (Frame.refl s).moved
    rcases unitTurn_next_cases hu with ⟨i, hf, he⟩ | ⟨_, rfl | rfl | ⟨n, rfl⟩⟩
    · rcases exec_frame_cases i _ t he with ht | ht
      · exact .inl ⟨ht.host, ht.params, ht.enabled, ht.faults, ht.error⟩
      · exact .inr ⟨i, script, hf, ht⟩
    · exact .inl hs
    · exact .inl (hs.addFault _)
    · exact .inl hs.moved
  rcases step_next_cases h with ⟨_, hset | ⟨w, rest, _, _, rfl⟩ | ⟨rest, _, hu⟩ | hu⟩
  · exact .inl hset
  · exact .inr (.inl (((Frame.refl s).addFault _).moved))
  · exact .inr (hunit rest hu)
  · exact .inr (hunit s.script hu)

theorem step_hSet {l : Line} {v : Level} {rest : List Turn} (hf : s.faults = .empty) (hs : s.script = .hSet l v :: rest) :
    step s = .next { s.hostSet l v with script := rest } := by
  rw [step_of_mover hf, mover, hs]

/-- After a recorded fault the unit takes no step (R285). -/
theorem step_faulted (hf : s.faults ≠ .empty) : step s = .fault .quiescent := by
  have hn : s.faults.nonempty = true := by rwa [← Bool.not_eq_false, FaultSet.nonempty_eq_false]
  rw [step, if_pos hn]

theorem mem_codes_iff (f : FaultSet) (n : Nat) : n ∈ f.codes ↔ ∃ x : FaultReason, x.code = n ∧ f.has x = true := by
  constructor
  · intro hn
    obtain ⟨x, _, rfl⟩ := List.mem_map.mp hn
    exact ⟨x, rfl, (mem_codes f x).mp hn⟩
  · rintro ⟨x, rfl, hx⟩
    exact (mem_codes f x).mpr hx

end Sys2Proof.Machine

open Sys2Proof Sys2Proof.Machine

/-- Settles O52: what an instruction writes beyond the frame is the Enabled-Device Set for EN and DIS alone. -/
theorem enabledSetChangesOnlyByEnableAndDisable : Obligations.EnabledSetChangesOnlyByEnableAndDisable := by
  refine ⟨fun i s t he hi => ?_, fun s t hs hne => ?_⟩
  · rcases exec_frame_cases i s t he with hframe | ⟨⟨d, rfl⟩ | ⟨d, rfl⟩, _⟩ | ⟨_, c, rfl⟩
    · exact hframe.enabled
    · exact absurd rfl (hi d).1
    · exact absurd rfl (hi d).2
    · rfl
  · rcases step_frame_cases hs with ⟨l, v, rest, _, rfl⟩ | hframe | ⟨i, script, hf, ⟨hi, _⟩ | ⟨_, c, rfl⟩⟩
    · exact absurd rfl hne
    · exact absurd hframe.enabled hne
    · rcases fetch_run_cases hf with ⟨hc, w, str, hp, hd⟩ | ⟨_, hu⟩
      · exact ⟨i, hi, .inr ⟨w, str, hc, hp, hd⟩⟩
      · exact ⟨i, hi, .inl hu⟩
    · exact absurd rfl hne

/-- Settles O53: an H_SET turn, EN and DIS leave the flags, and any other step outside SV_INIT keeps the frame. -/
theorem errorIsClearedOnlyAtServiceEntry : Obligations.ErrorIsClearedOnlyAtServiceEntry := by
  intro s t hs hset hclear
  rcases step_frame_cases hs with ⟨l, v, rest, _, rfl⟩ | hframe | ⟨i, script, _, ⟨_, e, rfl⟩ | ⟨hc, _⟩⟩
  · exact absurd (hset.symm.trans hclear) nofun
  · exact absurd ((hframe.error hset).symm.trans hclear) nofun
  · exact absurd (hset.symm.trans hclear) nofun
  · exact hc

/-- Settles O54: the frame keeps the host's lines and the parameters, and so does what EN, DIS and SV_INIT write. -/
theorem hostLinesChangeOnlyByHostSteps : Obligations.HostLinesChangeOnlyByHostSteps := by
  refine ⟨fun i s t he => ?_, fun s t hs => ?_, fun s l v rest hf hs => ?_⟩
  · rcases exec_frame_cases i s t he with hframe | ⟨_, e, rfl⟩ | ⟨_, c, rfl⟩
    · exact ⟨hframe.host, hframe.params⟩
    · exact ⟨rfl, rfl⟩
    · exact ⟨rfl, rfl⟩
  · rcases step_frame_cases hs with ⟨l, v, rest, hscript, rfl⟩ | hframe | ⟨i, script, _, ⟨_, e, rfl⟩ | ⟨_, c, rfl⟩⟩
    · exact ⟨rfl, .inr ⟨l, v, rest, hscript, rfl⟩⟩
    · exact ⟨hframe.params, .inl hframe.host⟩
    · exact ⟨rfl, .inl rfl⟩
    · exact ⟨rfl, .inl rfl⟩
  · exact ⟨s.host.put l v, step_hSet hf hs, HostLines.get_put_same l v s.host, fun _ hk => HostLines.get_put_other hk v _⟩

/-- Settles O55: a fault set that is not empty stops the step, and no instruction takes a reason out of it. -/
theorem faultsOnlyGrowAndStopTheUnit : Obligations.FaultsOnlyGrowAndStopTheUnit := by
  refine ⟨fun s hf => step_faulted hf, fun i s t x he hx => ?_, ⟨rfl, rfl, rfl, rfl, rfl⟩, mem_codes_iff⟩
  rcases exec_frame_cases i s t he with hframe | ⟨_, e, rfl⟩ | ⟨_, c, rfl⟩
  · exact hframe.faults x hx
  · exact hx
  · exact hx

end

section
/-! Steps and issues that a single rule decides: the procedure's own step (O3), a word issued while busy (O56), `status` (O10),
and the data-phase operations outside their phase (O43). -/

namespace Sys2Proof.Machine

variable {s : State}

/-- An answer or a timeout at the head of the script, or no turn at all, leaves the move to the unit (log 1). -/
theorem mover_unit (h : s.script = [] ∨ (∃ a rest, s.script = .hTalk a :: rest) ∨ (∃ a rest, s.script = .hListen a :: rest) ∨
    ∃ rest, s.script = .timeout :: rest) : mover s = .unit s := by
  rcases h with hs | ⟨a, rest, hs⟩ | ⟨a, rest, hs⟩ | ⟨rest, hs⟩ <;> simp only [mover, hs]

theorem step_eq_unitTurn (hf : s.faults = .empty) (hm : mover s = .unit s) : step s = unitTurn s := by
  rw [step_of_mover hf, hm]

/-- A `unit` turn is used up in the unit's move (log 1). -/
theorem step_unit_turn {rest : List Turn} (hf : s.faults = .empty) (hs : s.script = .unit :: rest) :
    step s = unitTurn { s with script := rest } := by
  rw [step_of_mover hf, mover, hs]

theorem step_intrude {w : OpWord} {rest : List Turn} (hf : s.faults = .empty) (hp : s.inProgress = true)
    (hs : s.script = .intrude w :: rest) : step s = .next { s.addFault (intruderFault w) with script := rest } := by
  rw [step_of_mover hf, mover, hs]
  simp only [hp, if_true]

theorem inProgress_of_busy (h : s.busy = true) : s.inProgress = true := by rw [State.inProgress, h, Bool.true_or]

/-- Only the rows of R107 are encoded as operation words. -/
theorem encode_isOperation {i : Instr} {w : OpWord} (h : encode i = .opWord w) : i.isOperation = true := by
  cases i with
  | atnUnlisten | atnUntalk | atnGlobal | atnListen | atnTalk | atnSecond | atnClose | atnOpen
  | atnNone1 | atnNone3 | atnNone5 | atnNone7 | atnNone8 | atnNoneC => cases h
  | _ => rfl

/-- Every operation word is executed through the checks of R281. -/
theorem exec_operate {i : Instr} (h : i.isOperation = true) (s : State) : ∃ a c k, exec i s = operate i a c k s := by
  cases i with
  | atnUnlisten | atnUntalk | atnGlobal | atnListen | atnTalk | atnSecond | atnClose | atnOpen
  | atnNone1 | atnNone3 | atnNone5 | atnNone7 | atnNone8 | atnNoneC => cases h
  | stat | isen | en | dis =>
    simp only [exec, execStat, execIsen, execEn, execDis]
    exact ⟨_, _, _, rfl⟩
  | _ => exact ⟨_, _, _, rfl⟩

/-- R24: a drivable line is PULLED where its register or the host pulls it, RESET where the host does. -/
theorem level_eq_pulled (s : State) (l : Line) :
    s.level l = .PULLED ↔
      (∃ d, lineDrivable l = some d ∧ (s.lines.get d).mode = .OUTPUT ∧ (s.lines.get d).drive = .PULLED) ∨
        s.host.get l = .PULLED := by
  unfold State.level
  cases hl : lineDrivable l with
  | none => simp
  | some d => simp [wiredOr_eq_pulled, State.contrib, LineReg.contrib_eq_pulled]

/-- An operation issued where its contract forbids it (R281, R287). -/
theorem issued_contract_fault (hc : s.ctl = .READY) (hb : s.busy = false) {i : Instr} {a : Admission} {c : Ctl}
    {k : State → Out} (ha : a.contract = false) : operate i a c k s = raise .F_CONTRACT s := by
  rw [operate_issued hc hb, if_pos ha]

end Sys2Proof.Machine

open Sys2Proof Sys2Proof.Machine

/-- Settles O3: inside an operation the unit fetches the procedure's own instruction, whatever answer waits in the script. -/
theorem stepRunsTheProceduresStep : Obligations.StepRunsTheProceduresStep := by
  intro s i hf _ hu
  refine ⟨fun hs => ?_, fun rest hs => ?_⟩
  · rw [step_eq_unitTurn hf (mover_unit hs), unitTurn_own hu]
  · rw [step_unit_turn hf hs, unitTurn_own (s := { s with script := rest }) hu]

/-- Settles O10: the level is the wired-OR, and `status` is admitted at READY in every phase. -/
theorem statusReturnsTheWiredOrLevel : Obligations.StatusReturnsTheWiredOrLevel := by
  intro s l
  refine ⟨level_eq_pulled s l, level_reset s, fun hc hb => ?_⟩
  rw [exec, execStat, operate_issued hc hb]
  simp [everyPhase, State.ret, State.finish, State.level, State.contrib, hc, hb]

/-- Settles O43: the contract is the first check of an issue, before the sticky error. -/
theorem dataPhaseOperationsFaultOutsideTheirPhase : Obligations.DataPhaseOperationsFaultOutsideTheirPhase := by
  intro s hc hb
  refine ⟨fun i hp hi => ?_, fun d has hp => issued_contract_fault hc hb (decide_eq_false hp)⟩
  rcases hi with ⟨b, rfl⟩ | rfl | ⟨b, rfl⟩ | rfl <;> exact issued_contract_fault hc hb (decide_eq_false hp)

/-- Settles O56: while busy, an instruction that is not the procedure's own, and a second caller's word, meet the reentry check. -/
theorem issueWhileBusyFaultsReentry : Obligations.IssueWhileBusyFaultsReentry := by
  refine ⟨fun i w s he hb hu => ?_, fun s w i rest hf hb hs hd => ?_⟩
  · obtain ⟨a, c, k, hexec⟩ := exec_operate (encode_isOperation he) s
    rw [hexec]
    exact operate_reentry hu (inProgress_of_busy hb) a c k
  · have hfault : intruderFault w = .F_REENTRY := by rw [intruderFault, hd]
    rw [step_intrude hf (inProgress_of_busy hb) hs, hfault]
    rfl

end

section
/-! The spin-waits (R62, R63, R220, R225, R254): a timeout under either policy (O37), and where the unit holds inside an
operation (O36). -/

namespace Sys2Proof.Machine

variable {s : State}

/-! ### A spin-wait whose condition is false (R62, R63) -/

/-- Under BOUNDED the timeout is taken (R63). -/
theorem waitUntil_timeout {l : Line} {v : Level} {seen late : State → Out} {rest : List Turn} (hl : s.level l ≠ v)
    (hp : s.params.spinPolicy = .BOUNDED) (hs : s.script = .timeout :: rest) :
    waitUntil l v seen late s = late { s with script := rest }.setError := by
  rw [waitUntil, if_neg hl, hp, hs]

/-- Under UNBOUNDED, and with no turn waiting, the unit holds (log 8). -/
theorem waitUntil_hold {l : Line} {v : Level} {seen late : State → Out} (hl : s.level l ≠ v)
    (h : s.params.spinPolicy = .UNBOUNDED ∨ s.script = []) : waitUntil l v seen late s = .next s := by
  rcases waitUntil_cases l v seen late s with ⟨hv, _⟩ | ⟨_, e⟩ | ⟨_, hp, rest, hs, _⟩
  · exact absurd hv hl
  · exact e
  · simp [hp, hs] at h

/-! ### The unit's turn at the waits -/

/-- In the unit's turn the procedure `k` of its own instruction is run. -/
theorem unitTurn_operate {i : Instr} {a : Admission} {c : Ctl} {k : State → Out} (hu : s.unitOp = some i)
    (he : exec i s = operate i a c k s) : unitTurn s = k s := by
  rw [unitTurn_own hu, he, operate_own hu]

/-- The wait of turnaround, at its call and at its own step (R220, log 15). -/
theorem unitTurn_turnaroundWait (hc : s.ctl = .SV_TA ∨ s.ctl = .TA_WAIT) :
    unitTurn s =
      waitUntil .CLOCK .RELEASED (goto .TA_REL_DATA) (exitService .ERROR) { s with ctl := .TA_WAIT } := by
  rcases hc with hc | hc <;> rw [unitTurn_operate (by rw [State.unitOp, hc]) rfl, turnaroundStep, hc]

/-- The wait of undo-turnaround (R225). -/
theorem unitTurn_undoWait (hc : s.ctl = .UT_WAIT) :
    unitTurn s = waitUntil .CLOCK .RELEASED (undoReturns true) (undoReturns false) s := by
  rw [unitTurn_operate (by rw [State.unitOp, hc]) rfl, undoTurnaroundStep, hc]

/-- The wait of `releaseLines(true)` (R254). -/
theorem unitTurn_releaseWait (hc : s.ctl = .RL_WAIT true) :
    unitTurn s = waitUntil .ATN .RELEASED releaseReturns releaseReturns s := by
  rw [unitTurn_operate (by rw [State.unitOp, hc]) rfl, releaseLinesStep, hc]

/-- A timeout waiting in the script leaves the move to the unit (log 1). -/
theorem step_timeout {rest : List Turn} (hf : s.faults = .empty) (hs : s.script = .timeout :: rest) :
    step s = unitTurn s :=
  step_eq_unitTurn hf (mover_unit (.inr (.inr (.inr ⟨rest, hs⟩))))

/-! ### Holding at a spin-wait -/

/-- With no turn waiting the unit holds exactly while the condition is false, where going on is a change. -/
theorem waitUntil_holds_iff {l : Line} {seen late : State → Out} (hs : s.script = []) (hseen : seen s ≠ .next s) :
    waitUntil l .RELEASED seen late s = .next s ↔ s.level l = .PULLED := by
  rw [← level_ne_released]
  constructor
  · rintro e hl
    rw [waitUntil, if_pos hl] at e
    exact hseen e
  · intro hl
    exact waitUntil_hold hl (.inr hs)

/-- The line a spin-wait watches (R62). -/
def Ctl.spinLine : Ctl → Option Line
  | .TA_WAIT | .UT_WAIT => some .CLOCK
  | .RL_WAIT true => some .ATN
  | _ => none

theorem spinLine_eq_some {c : Ctl} {l : Line} :
    c.spinLine = some l ↔
      (c = .TA_WAIT ∧ l = .CLOCK) ∨ (c = .UT_WAIT ∧ l = .CLOCK) ∨ (c = .RL_WAIT true ∧ l = .ATN) := by
  unfold Ctl.spinLine
  split <;> simp_all [eq_comm]

/-- An outcome at another control state is a change. -/
theorem ne_next_of_ctl {t : State} (h : t.ctl ≠ s.ctl) : (Host.Outcome.next t : Out) ≠ .next s := by
  intro e
  cases e
  exact h rfl

/-- A spin-wait holds exactly while its line is PULLED (R291). -/
theorem spinWait_holds_iff {l : Line} (hs : s.script = []) (hw : s.ctl.spinLine = some l) :
    unitTurn s = .next s ↔ s.level l = .PULLED := by
  rcases spinLine_eq_some.mp hw with ⟨hc, rfl⟩ | ⟨hc, rfl⟩ | ⟨hc, rfl⟩
  · have hstay : { s with ctl := .TA_WAIT } = s := by rw [← hc]
    rw [unitTurn_turnaroundWait (.inr hc), hstay]
    exact waitUntil_holds_iff hs (ne_next_of_ctl (by simp [hc]))
  · rw [unitTurn_undoWait hc]
    exact waitUntil_holds_iff hs (ne_next_of_ctl (by simp [hc]))
  · rw [unitTurn_releaseWait hc]
    exact waitUntil_holds_iff hs (ne_next_of_ctl (by simp [hc]))

/-! ### Holding at a byte rendezvous -/

/-- The instruction is a byte transaction (R130). -/
def IsByteOp (i : Instr) : Prop := (∃ d, i = .rxb d) ∨ ∃ b last, i = .txb b last

/-- At level T, with no answer waiting, `receiveByte` holds (R133). -/
theorem rxStep_hold (hl : s.params.byteLevel = .T) (hs : s.script = []) : rxStep s = .next s := by
  simp only [rxStep, hl, rxRendezvous, hs]

/-- At level T, with no answer waiting, `sendByte` holds (R137). -/
theorem txStep_hold (hl : s.params.byteLevel = .T) (hs : s.script = []) (b : Byte) (last : Bool) :
    txStep b last s = .next s := by
  simp only [txStep, hl, txRendezvous, hs]

/-- Recording the first fault is a change (R285). -/
theorem raise_ne_next (hf : s.faults = .empty) (x : FaultReason) : raise x s ≠ .next s := by
  intro e
  have hsame : s.addFault x = s := Host.Outcome.next.inj e
  have hadded : s.faults.nonempty = true := by
    rw [← hsame]
    exact FaultSet.nonempty_add x s.faults
  rw [hf] at hadded
  cases hadded

theorem stickyCheck_holds_iff {k : State → Out} (hi : s.shake = .idle) (hf : s.faults = .empty) (hk : k s = .next s) :
    stickyCheck k s = .next s ↔ s.error = false := by
  rcases stickyCheck_cases k s with ⟨_, he, e⟩ | ⟨hne, e⟩ <;> rw [e]
  · simp only [raise_ne_next hf, he, Bool.true_eq_false]
  · simpa [hk, hi] using hne

/-- A byte transaction with no answer waiting faults on the sticky error, or holds (R131, R291). -/
theorem byteOp_holds_iff {i : Instr} (h : s.Inv) (hl : s.params.byteLevel = .T) (hu : s.unitAlone)
    (hop : s.unitOp = some i) (hi : IsByteOp i) : unitTurn s = .next s ↔ s.error = false := by
  obtain ⟨hs, hf⟩ := hu
  have hidle := h.shake_idle_of_T hl
  rcases hi with ⟨d, rfl⟩ | ⟨b, last, rfl⟩
  · rw [unitTurn_operate hop rfl]
    exact stickyCheck_holds_iff hidle hf (rxStep_hold hl hs)
  · rw [unitTurn_operate hop rfl]
    exact stickyCheck_holds_iff hidle hf (txStep_hold hl hs b last)

/-- At the steps of a byte transaction the unit runs RXB or TXB. -/
theorem State.Inv.byteOp_of_byteStep (h : s.Inv) (hb : (s.ctl.receives || s.ctl.transmits) = true) :
    ∃ i, s.unitOp = some i ∧ IsByteOp i := by
  cases hc : s.ctl with
  | SV_PRIMARY | OP_RECV d => exact ⟨_, by rw [State.unitOp, hc], .inl ⟨_, rfl⟩⟩
  | SV_SECONDARY | SV_ACC_RX =>
    obtain ⟨hdevice, _⟩ := h.writtenAt hc
    obtain ⟨d, hd⟩ := rxbOfDevice_isSome hdevice
    exact ⟨_, by rw [State.unitOp, hc, hd], .inl ⟨d, rfl⟩⟩
  | OP_SEND b | OP_SENDEOI b => exact ⟨_, by rw [State.unitOp, hc], .inr ⟨_, _, rfl⟩⟩
  | OP_SENDS n =>
    have hbyte := List.getElem?_eq_getElem (h.sendsInside n hc)
    exact ⟨_, by simp only [State.unitOp, hc, hbyte]; rfl, .inr ⟨_, _, rfl⟩⟩
  | _ => simp [hc, Ctl.receives, Ctl.transmits] at hb

/-- In a run of a caller program the unit runs RXB and TXB nowhere else. -/
theorem State.Inv.byteStep_of_byteOp (h : s.Inv) {i : Instr} (hop : s.unitOp = some i) (hi : IsByteOp i) :
    (s.ctl.receives || s.ctl.transmits) = true := by
  have ht := h.notTransient
  cases hc : s.ctl with
  | SV_PRIMARY | SV_SECONDARY | SV_ACC_RX | OP_RECV | OP_SEND | OP_SENDS | OP_SENDEOI => rfl
  | OP_PULL | OP_REL | OP_MODE | OP_STATUS | OP_RXB | OP_TXB | OP_ISEN | OP_EN | OP_DIS =>
    rw [hc] at ht
    cases ht
  | SV_DECODE1 b =>
    rw [State.unitOp, hc] at hop
    cases hop
    have hatn := decodeAtn_isOperation b
    rcases hi with ⟨d, e⟩ | ⟨b', last, e⟩ <;> rw [e] at hatn <;> cases hatn
  | READY =>
    rw [State.unitOp, hc] at hop
    cases hop
  | _ =>
    rw [State.unitOp, hc] at hop
    cases hop
    simp [IsByteOp] at hi

/-! ### Every other step goes on to another control state (R62, R129) -/

/-- No next state of the outcome is at control state `c`. -/
def Leaves (c : Ctl) (o : Out) : Prop := Ensures (fun t => t.ctl ≠ c) o

@[simp] theorem leaves_next {c : Ctl} {t : State} : Leaves c (.next t) ↔ t.ctl ≠ c := ensures_next

@[simp] theorem leaves_goto {c c' : Ctl} {t : State} : Leaves c (goto c' t) ↔ c' ≠ c := ensures_goto

@[simp] theorem leaves_refused {c : Ctl} (x : Refusal) : Leaves c (.refused x) := ensures_refused x

theorem leaves_readField {α : Type} {c : Ctl} {x : Option α} {k : α → Out} (hk : ∀ v, Leaves c (k v)) :
    Leaves c (readField x k) := ensures_readField fun v _ => hk v

/-- An exit of `service` is at READY or at the first release of the lines (R198). -/
theorem leaves_exitService {c : Ctl} (hc : c.isServiceStep = true) (S : BusState) (t : State) :
    Leaves c (exitService S t) :=
  ensures_exitService (fun _ => by rintro rfl; cases hc) fun _ => by rintro rfl; cases hc

theorem leaves_exitByContent {c : Ctl} (hc : c.isServiceStep = true) (t : State) : Leaves c (exitByContent t) :=
  leaves_readField fun _ => by split <;> exact leaves_exitService hc _ _

theorem serviceGate_leaves (t : State) : Leaves .SV_GATE (serviceGate t) := by
  have hgate : ∀ p, Leaves .SV_GATE (gateDevice p t) := fun p =>
    leaves_readField fun d => by
      split
      · simp
      · exact leaves_exitService rfl _ _
  refine leaves_readField fun cmd => ?_
  cases cmd with
  | LISTEN | TALK => exact hgate _
  | GLOBAL | UNLISTEN | UNTALK | SECOND | CLOSE | OPEN | NONE => exact leaves_exitService rfl _ _

theorem serviceListen_leaves (t : State) : Leaves .SV_LISTEN (serviceListen t) := by
  refine leaves_readField fun cmd => ?_
  cases cmd with
  | SECOND =>
    refine leaves_readField fun ch => ?_
    split
    · simp
    · exact leaves_exitService rfl _ _
  | OPEN => simp
  | CLOSE => exact leaves_exitService rfl _ _
  | LISTEN | TALK | GLOBAL | UNLISTEN | UNTALK | NONE => exact leaves_exitByContent rfl t

theorem serviceStep_leaves (s : State) : Leaves s.ctl (serviceStep s) := by
  cases hc : s.ctl with
  | SV_INIT =>
    simp only [serviceStep, hc, serviceInit, leaves_goto]
    split <;> simp
  | SV_RESET_CHECK =>
    simp only [serviceStep, hc, serviceResetCheck]
    split
    · exact leaves_exitService rfl _ _
    · simp
  | SV_GATE =>
    simp only [serviceStep, hc]
    exact serviceGate_leaves s
  | SV_DISPATCH =>
    simp only [serviceStep, hc]
    exact leaves_readField fun p => by cases p <;> simp
  | SV_LISTEN =>
    simp only [serviceStep, hc]
    exact serviceListen_leaves s
  | SV_ACC_ATN =>
    simp only [serviceStep, hc, accumulateAtn]
    split
    · exact leaves_exitService rfl _ _
    · simp
  | SV_ACC_END =>
    simp only [serviceStep, hc]
    exact leaves_readField fun _ => leaves_exitByContent rfl _
  | _ => simp [serviceStep, hc]

theorem atnPrimary_leaves {b : Byte} (cmd : Cmd) (b' : Byte) (t : State) :
    Leaves (.SV_DECODE1 b) (atnPrimary cmd b' t) := by
  cases cmd with
  | UNLISTEN | UNTALK =>
    simp only [atnPrimary]
    exact leaves_exitService rfl _ _
  | GLOBAL | LISTEN | TALK | SECOND | CLOSE | OPEN | NONE => simp [atnPrimary]

/-- The procedure's own step leaves `c'` where the instruction's procedure `k` does. -/
theorem own_leaves {i : Instr} {a : Admission} {c c' : Ctl} {k : State → Out} (hop : s.unitOp = some i)
    (he : exec i s = operate i a c k s) (h : Leaves c' (k s)) : Leaves c' (unitTurn s) := own_ensures hop he h

/-- Inside an operation, away from the byte transactions and the spin-waits, the unit's turn goes on. -/
theorem unitTurn_leaves (h : s.Inv) (hr : s.ctl ≠ .READY) (hb : (s.ctl.receives || s.ctl.transmits) = false)
    (hw : s.ctl.spinLine = none) : Leaves s.ctl (unitTurn s) := by
  have ht := h.notTransient
  cases hc : s.ctl with
  | READY => exact absurd hc hr
  | SV_PRIMARY | SV_SECONDARY | SV_ACC_RX | OP_RECV | OP_SEND | OP_SENDS | OP_SENDEOI =>
    simp [hc, Ctl.receives, Ctl.transmits] at hb
  | TA_WAIT | UT_WAIT => simp [hc, Ctl.spinLine] at hw
  | OP_PULL | OP_REL | OP_MODE | OP_STATUS | OP_RXB | OP_TXB | OP_ISEN | OP_EN | OP_DIS =>
    rw [hc] at ht
    cases ht
  | SV_ENTRY_CLK | SV_ENTRY_DATA | TA_REL_DATA | TA_PULL_CLK | UT_REL_CLK | RL_CLK k | RL_DATA k | RL_ATN k
  | FNF_REL_DATA | FNF_REL_CLK =>
    exact own_leaves (by rw [State.unitOp, hc]) rfl (by simp [onDrivable, lineDrivable, afterLine, hc])
  | RL_SRQ k =>
    refine own_leaves (by rw [State.unitOp, hc]) rfl ?_
    cases k <;> simp [onDrivable, lineDrivable, afterLine, hc]
  | SV_INIT | SV_RESET_CHECK | SV_GATE | SV_DISPATCH | SV_LISTEN | SV_ACC_ATN | SV_ACC_END | SV_EXIT_RELEASE S =>
    exact own_leaves (by rw [State.unitOp, hc]) rfl (hc ▸ serviceStep_leaves s)
  | SV_DECODE1 b =>
    obtain ⟨cmd, b', he⟩ := exec_atn (decodeAtn_isOperation b) s
    rw [unitTurn_own (by rw [State.unitOp, hc]), he, atnCode, hc]
    exact atnPrimary_leaves cmd b' s
  | SV_TA =>
    rw [unitTurn_turnaroundWait (.inl hc)]
    exact ensures_waitUntil nofun (leaves_goto.mpr nofun) fun _ => leaves_exitService (c := .SV_TA) rfl _ _
  | TA_D1 | TA_D2 =>
    exact own_leaves (by rw [State.unitOp, hc]) rfl (by simp [turnaroundStep, exitService, hc])
  | UT_PULL_DATA | UT_D1 | UT_D2 =>
    exact own_leaves (by rw [State.unitOp, hc]) rfl (by simp [undoTurnaroundStep, hc])
  | FNF_DELAY => exact own_leaves (by rw [State.unitOp, hc]) rfl (by simp [sendFnfStep, hc])
  | RL_WAIT w =>
    cases w with
    | true => simp [hc, Ctl.spinLine] at hw
    | false =>
      exact own_leaves (by rw [State.unitOp, hc]) rfl (by simp [releaseLinesStep, releaseReturns, hc])

end Sys2Proof.Machine

open Sys2Proof Sys2Proof.Machine

/-- Settles O37: at each wait the step is `waitUntil`, which takes the timeout under BOUNDED and holds under UNBOUNDED. -/
theorem boundedWaitTimeoutSetsError : Obligations.BoundedWaitTimeoutSetsError := by
  intro s rest hf hs
  rw [step_timeout hf hs]
  refine ⟨fun hp => ⟨fun hc hl => ?_, fun hc hl => ?_, fun hc hl => ?_⟩,
    fun hp => ⟨fun hc hl => ?_, fun hc hl => ?_, fun hc hl => ?_⟩⟩
  · exact (unitTurn_turnaroundWait hc).trans (waitUntil_timeout (level_ne_released.mpr hl) hp hs)
  · exact (unitTurn_undoWait hc).trans (waitUntil_timeout (level_ne_released.mpr hl) hp hs)
  · exact (unitTurn_releaseWait hc).trans (waitUntil_timeout (level_ne_released.mpr hl) hp hs)
  · exact (unitTurn_turnaroundWait hc).trans (waitUntil_hold (level_ne_released.mpr hl) (.inl hp))
  · exact (unitTurn_undoWait hc).trans (waitUntil_hold (level_ne_released.mpr hl) (.inl hp))
  · exact (unitTurn_releaseWait hc).trans (waitUntil_hold (level_ne_released.mpr hl) (.inl hp))

/-- Settles O36: a byte transaction holds where ERROR is clear, a spin-wait while its line is PULLED, and every other step
leaves its control state. -/
theorem unitHoldsExactlyAtTheHoldPoints : Obligations.UnitHoldsExactlyAtTheHoldPoints := by
  intro s h hu hr hl
  obtain ⟨hs, _⟩ := id hu
  rw [step_unitAlone hu]
  by_cases hb : (s.ctl.receives || s.ctl.transmits) = true
  case pos =>
    obtain ⟨i, hop, hi⟩ := h.byteOp_of_byteStep hb
    rw [byteOp_holds_iff h hl hu hop hi]
    refine ⟨fun he => .inl ⟨i, hop, he, hi⟩, ?_⟩
    rintro (⟨_, _, he, _⟩ | ⟨hc, _⟩ | ⟨hc, _⟩ | ⟨hc, _⟩)
    · exact he
    all_goals rw [hc] at hb; cases hb
  case neg =>
    have hbyte : ¬ ∃ i, s.unitOp = some i ∧ s.error = false ∧ IsByteOp i :=
      fun ⟨_, hop, _, hi⟩ => hb (h.byteStep_of_byteOp hop hi)
    refine Iff.trans ?_ (or_iff_right hbyte).symm
    cases hw : s.ctl.spinLine with
    | some l =>
      rw [spinWait_holds_iff hs hw]
      rcases spinLine_eq_some.mp hw with ⟨hc, rfl⟩ | ⟨hc, rfl⟩ | ⟨hc, rfl⟩ <;> simp [hc]
    | none =>
      refine iff_of_false (fun e => unitTurn_leaves h hr (eq_false_of_ne_true hb) hw s e rfl) ?_
      rintro (⟨hc, _⟩ | ⟨hc, _⟩ | ⟨hc, _⟩) <;> rw [hc] at hw <;> cases hw

end

section
/-! Operation words: a word decodes to an instruction exactly when the instruction encodes to it, and decodes at all exactly when its
fields are in a row of R107 (O4). -/

namespace Sys2Proof

/-! ### The operand codes (R102, R109) -/

theorem Line.ofCode_eq_some {a : Byte} {l : Line} : Line.ofCode a = some l ↔ a = l.code := by
  refine ⟨fun h => BitVec.eq_of_toNat_eq ?_, fun h => h ▸ Line.ofCode_code l⟩
  unfold Line.ofCode at h
  split at h <;> cases h <;> assumption

theorem PinMode.ofCode_eq_some {b : Byte} {m : PinMode} : PinMode.ofCode b = some m ↔ b = m.code := by
  refine ⟨fun h => BitVec.eq_of_toNat_eq ?_, fun h => h ▸ PinMode.ofCode_code m⟩
  unfold PinMode.ofCode at h
  split at h <;> cases h <;> assumption

theorem boolOfCode_eq_some {b : Byte} {v : Bool} : boolOfCode b = some v ↔ b = boolCode v := by
  refine ⟨fun h => BitVec.eq_of_toNat_eq ?_, fun h => h ▸ boolOfCode_boolCode v⟩
  unfold boolOfCode at h
  split at h <;> cases h <;> assumption

theorem Line.exists_ofCode {a : Byte} : (∃ l, Line.ofCode a = some l) ↔ a.toNat ≤ 4 := by
  unfold Line.ofCode
  split
  case h_6 => simp_all; omega
  all_goals simp_all

theorem PinMode.exists_ofCode {b : Byte} : (∃ m, PinMode.ofCode b = some m) ↔ b.toNat ≤ 1 := by
  unfold PinMode.ofCode
  split
  case h_3 => simp_all; omega
  all_goals simp_all

theorem exists_boolOfCode {b : Byte} : (∃ v, boolOfCode b = some v) ↔ b.toNat ≤ 1 := by
  unfold boolOfCode
  split
  case h_3 => simp_all; omega
  all_goals simp_all

/-! ### The checks of an operand field -/

@[simp] theorem noA_zero (k : Except Reject Instr) : noA 0#8 k = k := if_pos rfl

@[simp] theorem noB_zero (k : Except Reject Instr) : noB 0#8 k = k := if_pos rfl

@[simp] theorem coded_some {α : Type} (v : α) (r : Reject) (k : α → Except Reject Instr) : coded (some v) r k = k v := rfl

theorem exists_coded_eq_ok {α : Type} {x : Option α} {r : Reject} {k : α → Except Reject Instr} :
    (∃ i, coded x r k = .ok i) ↔ ∃ v, x = some v ∧ ∃ i, k v = .ok i := by
  cases x <;> simp [coded]

/-! ### Decoding and encoding a word (R106, R107) -/

/-- The decoder reads the fields a word is put together from. -/
theorem decodeOp_make (sel a b : Byte) : decodeOp (OpWord.make sel a b) = decodeRow sel a b := by
  simp only [decodeOp, reserved_make, sel_make, fieldA_make, fieldB_make, if_true]

/-- A row's instruction encodes to the fields it was read from; the rows are grouped by what they check of `A` and `B`. -/
theorem encode_of_decodeRow {sel a b : Byte} {i : Instr} (h : decodeRow sel a b = .ok i) :
    encode i = .opWord (OpWord.make sel a b) := by
  rw [← BitVec.setWidth_eq sel, ← BitVec.ofNat_toNat]
  unfold decodeRow at h
  split at h
  case h_19 => cases h
  all_goals
    rename_i hsel
    rw [hsel]
    simp only [noA_eq_ok, noB_eq_ok, coded_eq_ok, Line.ofCode_eq_some, PinMode.ofCode_eq_some, boolOfCode_eq_some,
      Except.ok.injEq] at h
  case h_1 | h_2 | h_4 => obtain ⟨rfl, l, rfl, rfl⟩ := h; rfl
  case h_3 => obtain ⟨l, rfl, m, rfl, rfl⟩ := h; rfl
  case h_5 | h_8 | h_10 | h_13 | h_14 | h_15 => obtain ⟨rfl, rfl⟩ := h; rfl
  case h_6 | h_12 => obtain ⟨v, rfl, rfl⟩ := h; rfl
  case h_7 | h_9 | h_11 | h_17 | h_18 => obtain ⟨rfl, rfl, rfl⟩ := h; rfl
  case h_16 => obtain ⟨rfl, v, rfl, rfl⟩ := h; rfl

theorem encode_of_decodeOp {w : OpWord} {i : Instr} (h : decodeOp w = .ok i) : encode i = .opWord w := by
  unfold decodeOp at h
  split at h
  case isTrue hr => rw [encode_of_decodeRow h, make_fields hr]
  case isFalse => cases h

theorem decodeOp_of_encode {w : OpWord} {i : Instr} (h : encode i = .opWord w) : decodeOp w = .ok i := by
  cases i with
  | atnUnlisten | atnUntalk | atnGlobal | atnListen | atnTalk | atnSecond | atnClose | atnOpen
  | atnNone1 | atnNone3 | atnNone5 | atnNone7 | atnNone8 | atnNoneC => cases h
  | _ =>
    cases h
    rw [decodeOp_make]
    simp [decodeRow]

/-! ### Which words decode (R108) -/

/-- The fields in a row of R107, the rows grouped by what they admit of `A` and `B`. -/
theorem exists_decodeRow_eq_ok (sel a b : Byte) :
    (∃ i, decodeRow sel a b = .ok i) ↔
      (sel.toNat ∈ [0x01, 0x02, 0x04] ∧ a.toNat ≤ 4 ∧ b = 0#8) ∨
      (sel.toNat = 0x03 ∧ a.toNat ≤ 4 ∧ b.toNat ≤ 1) ∨
      (sel.toNat ∈ [0x05, 0x11, 0x13, 0x16, 0x17, 0x18] ∧ b = 0#8) ∨
      (sel.toNat ∈ [0x06, 0x15] ∧ b.toNat ≤ 1) ∨
      (sel.toNat ∈ [0x10, 0x12, 0x14, 0x20, 0x21] ∧ a = 0#8 ∧ b = 0#8) ∨
      (sel.toNat = 0x19 ∧ a = 0#8 ∧ b.toNat ≤ 1) := by
  unfold decodeRow
  split
  case h_19 => simp_all
  all_goals
    rename_i hsel
    simp only [hsel, noA_eq_ok, noB_eq_ok, exists_and_left, exists_and_right, exists_coded_eq_ok, Except.ok.injEq,
      exists_eq', and_true, Line.exists_ofCode, PinMode.exists_ofCode, exists_boolOfCode]
    simp [and_comm]

theorem exists_decodeOp_eq_ok (w : OpWord) :
    (∃ i, decodeOp w = .ok i) ↔
      OpWord.reserved w = 0#8 ∧ ∃ i, decodeRow (OpWord.sel w) (OpWord.fieldA w) (OpWord.fieldB w) = .ok i := by
  unfold decodeOp
  split
  case isTrue hr => exact (and_iff_right hr).symm
  case isFalse hr => exact iff_of_false (fun ⟨_, hi⟩ => nomatch hi) fun hw => hr hw.1

end Sys2Proof

open Sys2Proof Sys2Proof.Machine

/-- Settles O4: the reserved bits are checked first, then the operand fields by the row that the selector names. -/
theorem wordDecodesExactlyWhenAdmissible : Obligations.WordDecodesExactlyWhenAdmissible := fun w =>
  (exists_decodeOp_eq_ok w).trans (and_congr_right fun _ => exists_decodeRow_eq_ok _ _ _)

end

section
/-! Code bytes, and both formats together: encoding and decoding are inverse on the well-formed instructions (O6, O7), and the
argument of a code is its low nibble (O8). -/

namespace Sys2Proof

/-! ### A byte from its high and its low bits (R90) -/

theorem append_low {n k : Nat} {p : BitVec n} {b : BitVec (n + k)} (h : b.toNat / 2 ^ k = p.toNat) :
    p ++ b.extractLsb' 0 k = b := by
  have hp : b.extractLsb' k n = p := by
    apply BitVec.eq_of_toNat_eq
    rw [BitVec.extractLsb'_toNat, Nat.shiftRight_eq_div_pow, h, Nat.mod_eq_of_lt p.isLt]
  rw [← hp, BitVec.extractLsb'_append_extractLsb'_eq_extractLsb' (by omega), BitVec.extractLsb'_eq_self]

theorem cmdNibble_toNat (b : Byte) : (cmdNibble b).toNat = b.toNat / 16 := by
  have hlt := b.isLt
  simp only [cmdNibble, BitVec.extractLsb'_toNat, Nat.shiftRight_eq_div_pow]
  omega

theorem append_eq_iff {c x : BitVec 4} {b : Byte} : c ++ x = b ↔ c = cmdNibble b ∧ x = argNibble b := by
  constructor
  · rintro rfl
    exact ⟨(cmdNibble_append c x).symm, (argNibble_append c x).symm⟩
  · rintro ⟨rfl, rfl⟩
    exact append_low (cmdNibble_toNat b).symm

theorem append_eq_unlisten {c x : BitVec 4} : c ++ x = 0x3F#8 ↔ c = 0x3#4 ∧ x = 0xF#4 := append_eq_iff

theorem append_eq_untalk {c x : BitVec 4} : c ++ x = 0x5F#8 ↔ c = 0x5#4 ∧ x = 0xF#4 := append_eq_iff

/-! ### Decoding and encoding a code byte (R92 to R95) -/

/-- In each row of R93 the high bits are the row's code, so the byte is that code and the low bits the instruction carries. -/
theorem encode_decodeAtn (b : Byte) : encode (decodeAtn b) = .atnByte b := by
  have hlt := b.isLt
  unfold decodeAtn
  split
  case isTrue h => rw [h]; rfl
  split
  case isTrue h => rw [h]; rfl
  rw [cmdNibble_toNat]
  split
  all_goals
    refine congrArg Encoded.atnByte (append_low ?_)
    grind

/-- The two NONE rows whose free bits reach above the low nibble (R95). -/
theorem decodeAtn_none8 : ∀ x : BitVec 6, decodeAtn (0b10#2 ++ x) = .atnNone8 x := by decide

theorem decodeAtn_noneC : ∀ x : BitVec 5, decodeAtn (0b110#3 ++ x) = .atnNoneC x := by decide

/-- A row of a command nibble decodes by that nibble, since a well-formed instruction encodes to an exact code only as UNLISTEN or
UNTALK (R92). -/
theorem decodeAtn_of_encode {b : Byte} {i : Instr} (h : encode i = .atnByte b) (hw : i.wf = true) : decodeAtn b = i := by
  cases i with
  | pull | rel | mode | stat | rxb | txb | service | send | sends | sendeoi | sendfnf | recv | isen | en | dis | rell
  | turnaround | undoTurnaround => cases h
  | atnUnlisten | atnUntalk => cases h; rfl
  | atnNone8 x => cases h; exact decodeAtn_none8 x
  | atnNoneC x => cases h; exact decodeAtn_noneC x
  | atnGlobal | atnListen | atnTalk | atnSecond | atnClose | atnOpen | atnNone1 | atnNone3 | atnNone5 | atnNone7 =>
    cases h
    simp_all [decodeAtn, append_eq_unlisten, append_eq_untalk, Instr.wf]

/-! ### Well-formedness (R92, R95) -/

theorem Instr.wf_eq_false {i : Instr} : i.wf = false ↔ i = .atnNone3 0xF#4 ∨ i = .atnNone5 0xF#4 := by
  cases i <;> simp [Instr.wf]

theorem wf_of_isOperation {i : Instr} (h : i.isOperation = true) : i.wf = true := by
  cases i with
  | atnNone3 | atnNone5 => cases h
  | _ => rfl

/-- 0x3F and 0x5F decode to the exact codes, so no byte decodes to a NONE row at low nibble 0xF. -/
theorem wf_decodeAtn (b : Byte) : (decodeAtn b).wf = true := by
  refine eq_true_of_ne_false fun hw => ?_
  have hb := encode_decodeAtn b
  rcases Instr.wf_eq_false.mp hw with h | h <;> rw [h] at hb
  · obtain rfl : 0x3F#8 = b := Encoded.atnByte.inj hb
    cases h
  · obtain rfl : 0x5F#8 = b := Encoded.atnByte.inj hb
    cases h

/-! ### The command and the argument of a code (R93, R94) -/

/-- The command a code instruction stands for (R93); an operation word stands for none. -/
def Instr.cmd : Instr → Cmd
  | .atnUnlisten => .UNLISTEN
  | .atnUntalk => .UNTALK
  | .atnGlobal _ => .GLOBAL
  | .atnListen _ => .LISTEN
  | .atnTalk _ => .TALK
  | .atnSecond _ => .SECOND
  | .atnClose _ => .CLOSE
  | .atnOpen _ => .OPEN
  | _ => .NONE

/-- The command R93 returns is that of the code the byte decodes to. -/
theorem cmd_decodeAtn (b : Byte) : (decodeAtn b).cmd = atnCmd b := by
  unfold decodeAtn atnCmd
  split
  case isTrue => rfl
  split
  case isTrue => rfl
  split <;> simp_all [Instr.cmd]

/-- Each of the six commands with an argument has one row. -/
theorem Instr.exists_of_cmd (i : Instr) :
    (i.cmd = .GLOBAL → ∃ d, i = .atnGlobal d) ∧ (i.cmd = .LISTEN → ∃ d, i = .atnListen d) ∧
    (i.cmd = .TALK → ∃ d, i = .atnTalk d) ∧ (i.cmd = .SECOND → ∃ c, i = .atnSecond c) ∧
    (i.cmd = .CLOSE → ∃ c, i = .atnClose c) ∧ (i.cmd = .OPEN → ∃ c, i = .atnOpen c) := by
  cases i <;> simp [Instr.cmd]

/-- A byte decoded by the row of command nibble `c` carries its low nibble, which is what the XOR with the mask `c ++ 0` leaves. -/
theorem decodeAtn_argument {b : Byte} (c : BitVec 4) {row : BitVec 4 → Instr}
    (hrow : ∀ x, encode (row x) = .atnByte (c ++ x)) (h : ∃ x, decodeAtn b = row x) :
    decodeAtn b = row (argNibble b) ∧ (argNibble b).setWidth 8 = b ^^^ (c ++ 0#4) := by
  obtain ⟨x, h⟩ := h
  have hb := encode_decodeAtn b
  rw [h, hrow] at hb
  obtain rfl : c ++ x = b := Encoded.atnByte.inj hb
  rw [argNibble_append]
  refine ⟨h, ?_⟩
  calc x.setWidth 8 = 0#4 ++ x := BitVec.setWidth_eq_append (by omega)
    _ = (c ^^^ c) ++ (x ^^^ 0#4) := by rw [BitVec.xor_self, BitVec.xor_zero]
    _ = (c ++ x) ^^^ (c ++ 0#4) := BitVec.xor_append.symm

end Sys2Proof

open Sys2Proof Sys2Proof.Machine

/-- Settles O6: each format decodes back what it encodes. -/
theorem decodeOfEncodeIsIdentity : Obligations.DecodeOfEncodeIsIdentity := by
  intro i hw
  cases he : encode i with
  | opWord w => exact decodeOp_of_encode he
  | atnByte b => exact congrArg Except.ok (decodeAtn_of_encode he hw)

/-- Settles O7: each format encodes back what it decodes; an operation is always well-formed, and a code that a byte decodes to is. -/
theorem encodeOfDecodeIsIdentity : Obligations.EncodeOfDecodeIsIdentity :=
  ⟨fun _ _ h => ⟨encode_of_decodeOp h, wf_of_isOperation (decodeOp_isOperation h)⟩,
    fun b => ⟨encode_decodeAtn b, wf_decodeAtn b⟩⟩

/-- Settles O8: the command by cases of the command nibble, the argument by the one row of each command that has one. -/
theorem atnDecodeFollowsTheTable : Obligations.AtnDecodeFollowsTheTable := by
  intro b
  obtain ⟨hglobal, hlisten, htalk, hsecond, hclose, hopen⟩ := (decodeAtn b).exists_of_cmd
  rw [cmd_decodeAtn] at hglobal hlisten htalk hsecond hclose hopen
  refine ⟨?command, fun h => decodeAtn_argument 0x0#4 (fun _ => rfl) (hglobal h),
    fun h => decodeAtn_argument 0x2#4 (fun _ => rfl) (hlisten h),
    fun h => decodeAtn_argument 0x4#4 (fun _ => rfl) (htalk h),
    fun h => decodeAtn_argument 0x6#4 (fun _ => rfl) (hsecond h),
    fun h => decodeAtn_argument 0xE#4 (fun _ => rfl) (hclose h),
    fun h => decodeAtn_argument 0xF#4 (fun _ => rfl) (hopen h)⟩
  case command =>
    unfold atnCmd
    rw [cmdNibble_toNat]
    generalize b.toNat / 16 = n
    split
    case isTrue => rfl
    split
    case isTrue => rfl
    split <;> simp_all

/-- Settles O9: the decoder, evaluated on each of the twelve words and bytes. -/
theorem specWordsDecode : Obligations.SpecWordsDecode := by
  unfold Obligations.SpecWordsDecode
  decide

end

section
/-! What the unit runs for an encoded instruction: the caller's word at READY (O2, O5, O13), and a code byte at the place where
`service` reads it (O25). -/

namespace Sys2Proof.Machine

variable {s : State}

/-! ### The caller's word (R108, R110, R289) -/

theorem unitTurn_line {w : OpWord} {str : List Byte} {i : Instr} (hc : s.ctl = .READY)
    (hp : s.prog[s.pc]? = some (.op w str)) (hd : decodeOp w = .ok i) : unitTurn s = exec i s := by
  rw [unitTurn, fetch_line hc hp hd]

theorem unitTurn_invalid {w : OpWord} {str : List Byte} {e : Reject} (hc : s.ctl = .READY)
    (hp : s.prog[s.pc]? = some (.op w str)) (hd : decodeOp w = .error e) : unitTurn s = raise .F_BAD_OP s := by
  simp only [unitTurn, fetch, hc, hp, hd]

/-! ### A code byte (R97) -/

/-- Each code is executed as its command and the byte it encodes to. -/
theorem exec_code {i : Instr} {b : Byte} (h : encode i = .atnByte b) (s : State) : exec i s = atnCode i.cmd b s := by
  cases i with
  | pull | rel | mode | stat | rxb | txb | service | send | sends | sendeoi | sendfnf | recv | isen | en | dis | rell
  | turnaround | undoTurnaround => cases h
  | atnUnlisten | atnUntalk | atnGlobal | atnListen | atnTalk | atnSecond | atnClose | atnOpen
  | atnNone1 | atnNone3 | atnNone5 | atnNone7 | atnNone8 | atnNoneC => cases h; rfl

theorem exec_decodeAtn (b : Byte) (s : State) : exec (decodeAtn b) s = atnCode (atnCmd b) b s := by
  rw [exec_code (encode_decodeAtn b), cmd_decodeAtn]

/-- A receive ends, at level T, in the step in which the host answers (R133). -/
theorem rxb_own_answered {d : Byte} {a : RxAnswer} {rest : List Turn} (hu : s.unitOp = some (.rxb d))
    (hl : s.params.byteLevel = .T) (he : s.error = false) (hs : s.script = .hTalk a :: rest) :
    exec (.rxb d) s = rxAnswered a { s with script := rest } := by
  have hsticky : ¬ (s.shake = .idle ∧ s.error = true) := fun h => Bool.noConfusion (he.symm.trans h.2)
  rw [exec, execRxb, operate_own hu, stickyCheck, if_neg hsticky, rxStep, hl]
  simp only [rxRendezvous, hs]

end Sys2Proof.Machine

open Sys2Proof Sys2Proof.Machine

/-- Settles O2: in its turn at READY the unit fetches the caller's line, whatever answer waits in the script. -/
theorem stepRunsTheCallersWord : Obligations.StepRunsTheCallersWord := by
  intro s w str i hf hc hp hd
  refine ⟨fun hs => ?_, fun rest hs => ?_⟩
  · rw [step_eq_unitTurn hf (mover_unit hs), unitTurn_line hc hp hd]
  · rw [step_unit_turn hf hs, unitTurn_line (s := { s with script := rest }) hc hp hd]

/-- Settles O5: at the caller's line the fetch raises the fault; a second caller's word is decoded before F_REENTRY is raised. -/
theorem invalidWordRecordsBadOp : Obligations.InvalidWordRecordsBadOp := by
  intro s w e hf hd
  refine ⟨fun str hc hp => ⟨fun hs => ?_, fun rest hs => ?_⟩, fun rest hb hs => ?_⟩
  · rw [step_eq_unitTurn hf (mover_unit hs), unitTurn_invalid hc hp hd]
    rfl
  · rw [step_unit_turn hf hs, unitTurn_invalid (s := { s with script := rest }) hc hp hd]
    rfl
  · have hfault : intruderFault w = .F_BAD_OP := by rw [intruderFault, hd]
    rw [step_intrude hf (inProgress_of_busy hb) hs, hfault]
    rfl

/-- Settles O13: the six internal operations have the admission `internalOnly`, whose contract no caller meets. -/
theorem callerIssueOfInternalOperationFaults : Obligations.CallerIssueOfInternalOperationFaults := by
  intro s i hc hb hi
  rcases hi with ⟨l, rfl⟩ | ⟨l, rfl⟩ | ⟨d, rfl⟩ | ⟨b, last, rfl⟩ | rfl | rfl <;> exact issued_contract_fault hc hb rfl

/-- Settles O25: a code's instruction and the receive of its byte both end in `atnSecondary` of its command and byte. -/
theorem secondaryCodeWritesCommandAndChannel : Obligations.SecondaryCodeWritesCommandAndChannel := by
  intro s b hc
  refine ⟨?code, fun d eoi rest hd hl he hs => ?receive⟩
  case code =>
    rw [exec_decodeAtn, atnCode, hc]
    rfl
  case receive =>
    have hu : s.unitOp = some (.rxb (d.setWidth 8)) := by rw [State.unitOp, hc, State.rxbOfDevice, hd, Option.map_some]
    rw [rxb_own_answered hu hl he hs, rxAnswered, afterRx]
    simp only [listenerPosture_ctl, writeEoi_ctl, hc, zext16_nonneg, lowByte_zext16]
    rfl

end

section
/-! The line actions PULL and REL where a procedure runs them (O11, O12), and the caller's `set_pin_mode` (O14, O15). -/

namespace Sys2Proof.Machine

variable {s : State}

/-! ### Line actions (R120, R122, R170) -/

/-- The steps at which a procedure runs PULL or REL (log 12), with the line action alone. -/
def Ctl.isLineStep : Ctl → Bool
  | .SV_ENTRY_CLK | .SV_ENTRY_DATA | .TA_REL_DATA | .TA_PULL_CLK | .UT_REL_CLK | .RL_CLK _ | .RL_DATA _ | .RL_ATN _ | .RL_SRQ _
  | .FNF_REL_DATA | .FNF_REL_CLK | .OP_PULL _ | .OP_REL _ => true
  | _ => false

/-- After a line action the unit is at another step, or back at READY (R46). -/
theorem afterLine_of_lineStep (h : s.ctl.isLineStep = true) : ∃ c b, afterLine s = .next { s with ctl := c, busy := b } := by
  cases hc : s.ctl with
  | SV_ENTRY_CLK | SV_ENTRY_DATA | TA_REL_DATA | TA_PULL_CLK | UT_REL_CLK | RL_CLK | RL_DATA | RL_ATN | FNF_REL_DATA
  | FNF_REL_CLK | OP_PULL | OP_REL =>
    simp only [afterLine, hc]
    exact ⟨_, _, rfl⟩
  | RL_SRQ k => cases k <;> simp only [afterLine, hc] <;> exact ⟨_, _, rfl⟩
  | _ => simp [hc, Ctl.isLineStep] at h

/-- A procedure runs PULL and REL at no other step. -/
theorem isLineStep_of_unitOp {l : Line} (h : s.unitOp = some (.pull l) ∨ s.unitOp = some (.rel l)) :
    s.ctl.isLineStep = true := by
  cases hc : s.ctl with
  | SV_ENTRY_CLK | SV_ENTRY_DATA | TA_REL_DATA | TA_PULL_CLK | UT_REL_CLK | RL_CLK | RL_DATA | RL_ATN | RL_SRQ | FNF_REL_DATA
  | FNF_REL_CLK | OP_PULL | OP_REL => rfl
  | SV_DECODE1 b =>
    have hatn := decodeAtn_isOperation b
    simp only [State.unitOp, hc, Option.some.injEq] at h
    rcases h with e | e <;> rw [e] at hatn <;> cases hatn
  | SV_SECONDARY | SV_ACC_RX => simp [State.unitOp, hc, State.rxbOfDevice] at h
  | OP_SENDS n =>
    simp only [State.unitOp, hc] at h
    split at h <;> simp at h
  | _ => simp [State.unitOp, hc] at h

theorem exec_pull_own {l : Line} {d : DLine} (hu : s.unitOp = some (.pull l)) (hl : lineDrivable l = some d) :
    exec (.pull l) s = afterLine (s.pull d) := by
  rw [exec, execPull, operate_own hu, onDrivable, hl]

theorem exec_rel_own {l : Line} {d : DLine} (hu : s.unitOp = some (.rel l)) (hl : lineDrivable l = some d) :
    exec (.rel l) s = afterLine (s.release d) := by
  rw [exec, execRel, operate_own hu, onDrivable, hl]

/-- The level of a drivable line is the wired-OR of its register and the host (R24). -/
theorem level_drivable {l : Line} {d : DLine} (hl : lineDrivable l = some d) :
    s.level l = wiredOr (s.lines.get d).contrib (s.host.get l) := by
  simp only [State.level, hl, State.contrib]

/-! ### Issuing an operation (R281) -/

theorem operate_admitted (hc : s.ctl = .READY) (hb : s.busy = false) {i : Instr} {a : Admission} {c : Ctl} {k : State → Out}
    (hcontract : a.contract = true) (hargs : a.args = true) (hsticky : a.sticky = false) :
    operate i a c k s = k { s with ctl := c, busy := true } := by
  simp only [operate_issued hc hb, hcontract, hargs, hsticky, Bool.true_eq_false, Bool.false_eq_true, if_false]

theorem issued_bad_arg (hc : s.ctl = .READY) (hb : s.busy = false) {i : Instr} {a : Admission} {c : Ctl} {k : State → Out}
    (hcontract : a.contract = true) (hargs : a.args = false) : operate i a c k s = raise .F_BAD_ARG s := by
  simp only [operate_issued hc hb, hcontract, hargs, Bool.true_eq_false, if_false, if_true]

theorem issued_sticky_fault (hc : s.ctl = .READY) (hb : s.busy = false) {i : Instr} {a : Admission} {c : Ctl}
    {k : State → Out} (hcontract : a.contract = true) (hargs : a.args = true) (hsticky : a.sticky = true) :
    operate i a c k s = raise .F_STICKY_ERROR s := by
  simp only [operate_issued hc hb, hcontract, hargs, hsticky, Bool.true_eq_false, if_false, if_true]

/-- R126 of a drivable line: OUTPUT over a RELEASED drive. -/
theorem wouldDriveIdle_drivable {l : Line} {d : DLine} (hl : lineDrivable l = some d) (m : PinMode) :
    s.wouldDriveIdle l m = (m = .OUTPUT && (s.lines.get d).drive = .RELEASED) := by
  rw [State.wouldDriveIdle, hl]

end Sys2Proof.Machine

open Sys2Proof Sys2Proof.Machine

/-- Settles O11: PULL writes its line, then `afterLine` moves on; the line's own register decides its level. -/
theorem pullMakesTheLinePulled : Obligations.PullMakesTheLinePulled := by
  refine ⟨fun s l d hl hu => ?_, fun s l d hl hc => ?_, fun s hc => ?_, fun s hc => ?_, fun s hc => ?_⟩
  · rw [exec_pull_own hu hl]
    exact afterLine_of_lineStep (s := s.pull d) (isLineStep_of_unitOp (.inl hu))
  · refine ⟨_, ?_, rfl, UnitLines.get_put_same d _ _, fun k hk => UnitLines.get_put_other hk _ _, ?_⟩
    · rw [exec_pull_own (by rw [State.unitOp, hc]) hl, afterLine, pull_ctl, hc]
      rfl
    · rw [level_drivable hl, UnitLines.get_put_same]
      exact wiredOr_pulled _
  · exact operate_own (by rw [State.unitOp, hc]) _ _ _
  · rw [exec_pull_own (by rw [State.unitOp, hc]) rfl, afterLine, pull_ctl, hc]
    rfl
  · rw [exec_pull_own (by rw [State.unitOp, hc]) rfl, afterLine, pull_ctl, hc]
    rfl

/-- Settles O12: REL writes its line, then `afterLine` moves on; an idle register leaves the level to the host. -/
theorem releaseLetsTheLineFloat : Obligations.ReleaseLetsTheLineFloat := by
  refine ⟨fun s l d hl hu => ?_, fun s l d hl hc => ?_, fun s hc => ?_⟩
  · rw [exec_rel_own hu hl]
    exact afterLine_of_lineStep (s := s.release d) (isLineStep_of_unitOp (.inr hu))
  · refine ⟨_, ?_, rfl, UnitLines.get_put_same d _ _, fun k hk => UnitLines.get_put_other hk _ _, ?_⟩
    · rw [exec_rel_own (by rw [State.unitOp, hc]) hl, afterLine, release_ctl, hc]
      rfl
    · rw [level_drivable hl, UnitLines.get_put_same]
      exact wiredOr_released _
  · exact operate_own (by rw [State.unitOp, hc]) _ _ _

/-- Settles O14: R126 and R127 admit the issue, and the operation returns in its one step. -/
theorem modeWritesTheModeAlone : Obligations.ModeWritesTheModeAlone := by
  intro s l d m hc hb hp hl hm
  have hcontract : (s.modeAdmission l m).contract = true := by
    simpa [State.modeAdmission, wouldDriveIdle_drivable hl, hp, imp_iff_not_or] using hm
  have hargs : (s.modeAdmission l m).args = true := by simp only [State.modeAdmission, hl, Option.isSome_some]
  rw [exec, execMode, operate_admitted hc hb hcontract hargs rfl, onDrivable, hl]
  simp only [State.setPinMode, State.finish, hc, hb]

/-- Settles O15: outside phase NONE and for a drive that would idle the contract fails; RESET passes it and fails as an argument. -/
theorem modeFaultsOutsideTheContract : Obligations.ModeFaultsOutsideTheContract := by
  intro s l m hc hb
  refine ⟨fun hp => ?phase, fun d _ hl hm hd => ?drive, fun hp hl => ?reset⟩
  case phase =>
    refine issued_contract_fault hc hb ?_
    simp only [State.modeAdmission, hp, decide_false, Bool.false_and]
  case drive =>
    refine issued_contract_fault hc hb ?_
    simp [State.modeAdmission, wouldDriveIdle_drivable hl, hm, hd]
  case reset =>
    subst hl
    have hcontract : (s.modeAdmission .RESET m).contract = true := by
      simp only [State.modeAdmission, State.wouldDriveIdle, lineDrivable, hp, decide_true, Bool.not_false, Bool.and_true]
    exact issued_bad_arg hc hb hcontract rfl

end

section
/-! Byte transactions at level T (R132, R133, R136, R137): a rendezvous with and without its answer, `receiveByte` and `sendByte`
run by the block alone (O16, O17), and the sticky error (O18). -/

namespace Sys2Proof.Machine

variable {s : State}

/-! ### The rendezvous -/

theorem rxStep_answered {a : RxAnswer} {rest : List Turn} (hl : s.params.byteLevel = .T) (hs : s.script = .hTalk a :: rest) :
    rxStep s = rxAnswered a { s with script := rest } := by
  simp only [rxStep, hl, rxRendezvous, hs]

theorem txStep_answered {a : TxAnswer} {rest : List Turn} (hl : s.params.byteLevel = .T) (hs : s.script = .hListen a :: rest)
    (b : Byte) (last : Bool) : txStep b last s = txAnswered last a { s with script := rest } := by
  simp only [txStep, hl, txRendezvous, hs]

/-- Whatever other turn waits, `receiveByte` holds (R133, log 8). -/
theorem rxStep_unanswered (hl : s.params.byteLevel = .T) (hs : ∀ a rest, s.script ≠ .hTalk a :: rest) :
    rxStep s = .next s := by
  simp only [rxStep, hl, rxRendezvous]

theorem txStep_unanswered (hl : s.params.byteLevel = .T) (hs : ∀ a rest, s.script ≠ .hListen a :: rest) (b : Byte)
    (last : Bool) : txStep b last s = .next s := by
  simp only [txStep, hl, txRendezvous]

/-! ### What an answer leaves (R132, R136) -/

/-- The flags, lines and counter of free values after a failed byte transaction. -/
def State.byteFailed (s : State) : State :=
  { s with
    flags := (s.flags ||| 0x01#8) &&& 0xFD#8
    lines := { s.lines with clock := drawReg s.draws, data := drawReg (s.draws + 1) }
    draws := s.draws + 2 }

/-- The flags and lines after a byte has been received. -/
def State.byteReceived (eoi : Bool) (s : State) : State :=
  { s with flags := flagsWriteEoi eoi s.flags, lines := { s.lines with clock := .idle, data := .pulled } }

/-- The flags and lines after a byte has been acknowledged. -/
def State.byteSent (isLast : Bool) (s : State) : State :=
  { s with flags := flagsWriteEoi isLast s.flags, lines := { s.lines with clock := .pulled, data := .idle } }

theorem rxAnswered_ok (b : Byte) (eoi : Bool) (s : State) :
    rxAnswered (.ok b eoi) s = afterRx (zext16 b) (s.byteReceived eoi) := rfl

theorem rxAnswered_fail (s : State) : rxAnswered .fail s = afterRx s.params.rxErr s.byteFailed := rfl

theorem txAnswered_ack (isLast : Bool) (s : State) : txAnswered isLast .ack s = afterTx true (s.byteSent isLast) := rfl

theorem txAnswered_fail (isLast : Bool) (s : State) : txAnswered isLast .fail s = afterTx false s.byteFailed := rfl

theorem drawReg_legal (n : Nat) : (drawReg n).legal := drawReg_cases n

/-! ### RXB and TXB as a procedure's own step (R131, log 12) -/

theorem stickyCheck_clear {k : State → Out} (he : s.error = false) : stickyCheck k s = k s := by
  rcases stickyCheck_cases k s with ⟨_, hset, _⟩ | ⟨_, e⟩
  · exact absurd (hset.symm.trans he) nofun
  · exact e

theorem exec_rxb_own {d : Byte} (hu : s.unitOp = some (.rxb d)) (he : s.error = false) : exec (.rxb d) s = rxStep s := by
  rw [exec, execRxb, operate_own hu, stickyCheck_clear he]

theorem exec_txb_own {b : Byte} {last : Bool} (hu : s.unitOp = some (.txb b last)) (he : s.error = false) :
    exec (.txb b last) s = txStep b last s := by
  rw [exec, execTxb, operate_own hu, stickyCheck_clear he]

theorem stickyCheck_set {k : State → Out} (hi : s.shake = .idle) (he : s.error = true) :
    stickyCheck k s = raise .F_STICKY_ERROR s := if_pos ⟨hi, he⟩

end Sys2Proof.Machine

open Sys2Proof Sys2Proof.Machine

/-- Settles O16: at OP_RXB the answer's value is left in `r` and the block is at READY. -/
theorem receiveByteReturnsTheByteOrError : Obligations.ReceiveByteReturnsTheByteOrError := by
  intro s dev rest hc hl he
  have hu : s.unitOp = some (.rxb dev) := by rw [State.unitOp, hc]
  refine ⟨fun b eoi hs => ?ok,
    fun hs => ⟨_, _, drawReg_cases s.draws, drawReg_cases (s.draws + 1), rxErr_negative _, ?fail⟩⟩
  case ok =>
    rw [rxb_own_answered hu hl he hs, rxAnswered_ok, afterRx]
    simp only [State.byteReceived, hc]
    rfl
  case fail =>
    rw [rxb_own_answered hu hl he hs, rxAnswered_fail, afterRx]
    simp only [State.byteFailed, hc]
    rfl

/-- Settles O17: at OP_TXB the answer is left in `r` and the block is at READY. -/
theorem sendByteReturnsWhetherAcknowledged : Obligations.SendByteReturnsWhetherAcknowledged := by
  intro s b last rest hc hl he
  have hu : s.unitOp = some (.txb b last) := by rw [State.unitOp, hc]
  refine ⟨hu, fun hs => ?ack, fun hs => ⟨_, _, drawReg_cases s.draws, drawReg_cases (s.draws + 1), ?fail⟩⟩
  case ack =>
    rw [exec_txb_own hu he, txStep_answered hl hs, txAnswered_ack, afterTx]
    simp only [State.byteSent, hc]
    rfl
  case fail =>
    rw [exec_txb_own hu he, txStep_answered hl hs, txAnswered_fail, afterTx]
    simp only [State.byteFailed, hc]
    rfl

/-- Settles O18: the check is the first of a byte transaction a procedure runs, and the last of a byte operation's issue. -/
theorem stickyErrorFaultsByteOperations : Obligations.StickyErrorFaultsByteOperations := by
  intro s he
  refine ⟨fun i hi hu hop => ?own, fun hc hb => ⟨fun hp b => ?_, fun hp b => ?_, fun hp hstr => ?_, fun hp d has => ?_⟩⟩
  case own =>
    rcases hop with ⟨d, rfl⟩ | ⟨b, last, rfl⟩ <;> exact (operate_own hu _ _ _).trans (stickyCheck_set hi he)
  · exact issued_sticky_fault hc hb (decide_eq_true hp) rfl he
  · exact issued_sticky_fault hc hb (decide_eq_true hp) rfl he
  · exact issued_sticky_fault hc hb (decide_eq_true hp) rfl (by simp [State.sendsAdmission, he, hstr])
  · exact issued_sticky_fault hc hb (decide_eq_true hp) rfl he

end

section
/-! The receives of `service`: the primary byte (O22), a byte of the command string (O29), and a receive that fails (O30); with the
line release that ends a failed cycle (R198, R255). -/

namespace Sys2Proof.Machine

variable {s : State}

/-! ### The unit alone, step by step -/

/-- With no turn waiting, a step inside an operation executes the procedure's own instruction. -/
theorem step_own {i : Instr} (h : s.unitAlone) (hu : s.unitOp = some i) : step s = exec i s := by
  rw [step_unitAlone h, unitTurn_own hu]

theorem step_rel {l : Line} {d : DLine} (h : s.unitAlone) (hu : s.unitOp = some (.rel l)) (hl : lineDrivable l = some d) :
    step s = afterLine (s.release d) := by
  rw [step_own h hu, exec_rel_own hu hl]

/-! ### The line release (R254, R255) -/

/-- The step after the four releases (R198, R254). -/
def AfterRelease.ctl : AfterRelease → Ctl
  | .exit S => .SV_EXIT_RELEASE S
  | .lines wait => .RL_WAIT wait

theorem afterLine_lastRelease {k : AfterRelease} (hc : s.ctl = .RL_SRQ k) : afterLine s = goto k.ctl s := by
  cases k <;> simp only [afterLine, hc, AfterRelease.ctl]

/-- The four release steps leave every line idle. -/
theorem run_release {k : AfterRelease} (h : s.unitAlone) (hc : s.ctl = .RL_CLK k) :
    run 4 s = .next { s with lines := .idle, ctl := k.ctl } := by
  have hclk : step s = .next { s.release .CLOCK with ctl := .RL_DATA k } := by
    rw [step_rel h (by rw [State.unitOp, hc]) rfl, afterLine, release_ctl, hc]
    rfl
  have hsrq : step { s with lines := { UnitLines.idle with srq := s.lines.srq }, ctl := .RL_SRQ k } =
      .next { s with lines := .idle, ctl := k.ctl } :=
    (step_rel (by exact h) rfl rfl).trans (afterLine_lastRelease (by exact rfl))
  rw [run_next hclk]
  refine Eq.trans (run_next (step_rel (by exact h) rfl rfl) 2) ?_
  refine Eq.trans (run_next (step_rel (by exact h) rfl rfl) 1) ?_
  exact run_next hsrq 0

/-- `exit(S)` for IDLE, ERROR and RESET: the release and the bookkeeping (R198). -/
theorem run_silentExit {S : BusState} (h : s.unitAlone) (hc : s.ctl = .RL_CLK (.exit S)) :
    run 5 s = .next (State.idleExit S { s with lines := .idle }) := by
  rw [run_add (run_release h hc) 1]
  have hexit : step { s with lines := .idle, ctl := .SV_EXIT_RELEASE S } = .next (State.idleExit S { s with lines := .idle }) :=
    step_own (by exact h) (i := .service) rfl
  exact run_next hexit 0

/-! ### What follows a receive of `service` (R174, R178, R204) -/

/-- The three receives of `service`. -/
def Ctl.serviceReceives : Ctl → Bool
  | .SV_PRIMARY | .SV_SECONDARY | .SV_ACC_RX => true
  | _ => false

theorem rxb_of_serviceReceives {i : Instr} (hc : s.ctl.serviceReceives = true) (hu : s.unitOp = some i) :
    ∃ d, i = .rxb d := by
  cases h : s.ctl with
  | SV_PRIMARY => exact ⟨0, by simpa [State.unitOp, h, eq_comm] using hu⟩
  | SV_SECONDARY | SV_ACC_RX =>
    simp only [State.unitOp, h, State.rxbOfDevice, Option.map_eq_some_iff] at hu
    obtain ⟨d, _, rfl⟩ := hu
    exact ⟨_, rfl⟩
  | _ => simp [h, Ctl.serviceReceives] at hc

/-- A failure value starts the exit with ERROR. -/
theorem afterRx_negative {v : Word16} (hc : s.ctl.serviceReceives = true) (hv : v.slt 0 = true) :
    afterRx v s = .next { s with ctl := .RL_CLK (.exit .ERROR) } := by
  cases h : s.ctl with
  | SV_PRIMARY | SV_SECONDARY | SV_ACC_RX => simp only [afterRx, h, hv, if_true, exitService, goto]
  | _ => simp [h, Ctl.serviceReceives] at hc

theorem afterRx_primary (hc : s.ctl = .SV_PRIMARY) (b : Byte) : afterRx (zext16 b) s = goto (.SV_DECODE1 b) s := by
  simp only [afterRx, hc, zext16_nonneg, lowByte_zext16, Bool.false_eq_true, if_false]

theorem afterRx_string (hc : s.ctl = .SV_ACC_RX) (c : Byte) : afterRx (zext16 c) s = accumulateByte c s := by
  simp only [afterRx, hc, zext16_nonneg, lowByte_zext16, Bool.false_eq_true, if_false]

/-- A failed receive of `service` (R132, R174). -/
theorem exec_serviceReceive_failed {i : Instr} {rest : List Turn} (hc : s.ctl.serviceReceives = true) (hu : s.unitOp = some i)
    (hl : s.params.byteLevel = .T) (he : s.error = false) (hs : s.script = .hTalk .fail :: rest) :
    exec i s = .next { State.byteFailed { s with script := rest } with ctl := .RL_CLK (.exit .ERROR) } := by
  obtain ⟨d, rfl⟩ := rxb_of_serviceReceives hc hu
  rw [rxb_own_answered hu hl he hs, rxAnswered_fail]
  exact afterRx_negative (by exact hc) (rxErr_negative _)

/-! ### A byte of the command string (R205, R206, R207, R280) -/

theorem accumulateByte_terminator (s : State) : accumulateByte 0x3F#8 s = goto .SV_ACC_END s := rfl

theorem accumulateByte_carriageReturn (s : State) : accumulateByte 0x0D#8 s = goto .SV_ACC_ATN s := rfl

theorem accumulateByte_text {c : Byte} {str : List Byte} (hend : c ≠ 0x3F#8) (hcr : c ≠ 0x0D#8)
    (hstr : s.data.content = some str) :
    accumulateByte c s =
      if str.length = s.params.cmdMax then exitService .ERROR s.setError
      else goto .SV_ACC_ATN { s with data := { s.data with content := some (str ++ [c]) } } := by
  rw [accumulateByte, if_neg hend, if_neg hcr, hstr, readField_some]

end Sys2Proof.Machine

open Sys2Proof Sys2Proof.Machine

/-- Settles O22: an answered byte goes to the decode; a failed receive starts the exit with ERROR, which takes five more steps. -/
theorem primaryReceiveTakesOneByteOrEndsWithError : Obligations.PrimaryReceiveTakesOneByteOrEndsWithError := by
  intro s hc hl he
  have hu : s.unitOp = some (.rxb 0) := by rw [State.unitOp, hc]
  refine ⟨fun b eoi rest hs => ?answered, fun hf hs => ⟨_, ?failed, ?error, rfl⟩⟩
  case answered =>
    rw [rxb_own_answered hu hl he hs, rxAnswered_ok]
    exact afterRx_primary (by exact hc) b
  case failed =>
    have hstep : step s = .next { State.byteFailed { s with script := [] } with ctl := .RL_CLK (.exit .ERROR) } := by
      rw [step_eq_unitTurn hf (mover_unit (.inr (.inl ⟨_, _, hs⟩))), unitTurn_own hu]
      exact exec_serviceReceive_failed (by rw [hc]; rfl) hu hl he hs
    rw [run_next hstep]
    exact run_silentExit ⟨rfl, by exact hf⟩ rfl
  case error => exact (flagsWriteEoi_bit0 false _).trans (flagsSetError_bit0 s.flags)

/-- Settles O29: the byte goes to `accumulateByte`, which checks for the terminator, the carriage return and the overflow in that
order. -/
theorem stringByteEndsSkipsOverflowsOrAppends : Obligations.StringByteEndsSkipsOverflowsOrAppends := by
  intro s d str c eoi rest f u hc hd hstr hl he hs hf hu
  subst hf hu
  have hop : s.unitOp = some (.rxb (d.setWidth 8)) := by rw [State.unitOp, hc, State.rxbOfDevice, hd, Option.map_some]
  have hstep : exec (.rxb (d.setWidth 8)) s = accumulateByte c (State.byteReceived eoi { s with script := rest }) := by
    rw [rxb_own_answered hop hl he hs, rxAnswered_ok]
    exact afterRx_string (by exact hc) c
  rw [hstep]
  refine ⟨?terminator, ?carriageReturn, fun hend hcr hlen => ?overflow, fun hend hcr hlen => ?append⟩
  case terminator =>
    rintro rfl
    exact accumulateByte_terminator _
  case carriageReturn =>
    rintro rfl
    exact accumulateByte_carriageReturn _
  case overflow => exact (accumulateByte_text hend hcr (by exact hstr)).trans (if_pos hlen)
  case append => exact (accumulateByte_text hend hcr (by exact hstr)).trans (if_neg hlen)

/-- Settles O30: each of the three receives returns the failure value, which starts the exit with ERROR. -/
theorem failedReceiveInServiceExitsWithError : Obligations.FailedReceiveInServiceExitsWithError := by
  intro s i rest hc hu hl he hs
  have hservice : s.ctl.serviceReceives = true := by rcases hc with hc | hc | hc <;> rw [hc] <;> rfl
  exact ⟨_, _, drawReg_legal _, drawReg_legal _, exec_serviceReceive_failed hservice hu hl he hs⟩

end

section
/-! The caller's byte operations at level T, answered as they are issued or after a hold: `send` (O38), `sendEOI` with
undo-turnaround (O40), `receive` (O42), and `send(string)`, by induction on the bytes acknowledged (O39). -/

namespace Sys2Proof.Machine

variable {s : State}

/-! ### The issue and the hold (R281, log 6, log 8) -/

/-- A byte operation issued in its phase with ERROR clear takes its first step. -/
theorem issued_byteOp {i : Instr} {p : Phase} {c : Ctl} {k : State → Out} (hc : s.ctl = .READY) (hb : s.busy = false)
    (hp : s.phase = p) (he : s.error = false) :
    operate i (s.bytePhase p) c k s = k { s with ctl := c, busy := true } :=
  operate_admitted hc hb (decide_eq_true hp) rfl he

/-- The unit is where a hold has left it. -/
theorem held_eq {c : Ctl} (hc : s.ctl = c) (hb : s.busy = true) : { s with ctl := c, busy := true } = s := by
  rw [← hc, ← hb]

theorem exec_send_eq {i : Instr} {b : Byte} (he : s.error = false)
    (h : (i = .send b ∧ s.ctl = .READY ∧ s.busy = false ∧ s.phase = .TALK) ∨
      (i = .txb b false ∧ s.ctl = .OP_SEND b ∧ s.busy = true)) :
    exec i s = txStep b false { s with ctl := .OP_SEND b, busy := true } := by
  rcases h with ⟨rfl, hc, hb, hp⟩ | ⟨rfl, hc, hb⟩
  · exact issued_byteOp hc hb hp he
  · rw [exec_txb_own (by rw [State.unitOp, hc]) he, held_eq hc hb]

theorem exec_sendeoi_eq {i : Instr} {b : Byte} (he : s.error = false)
    (h : (i = .sendeoi b ∧ s.ctl = .READY ∧ s.busy = false ∧ s.phase = .TALK) ∨
      (i = .txb b true ∧ s.ctl = .OP_SENDEOI b ∧ s.busy = true)) :
    exec i s = txStep b true { s with ctl := .OP_SENDEOI b, busy := true } := by
  rcases h with ⟨rfl, hc, hb, hp⟩ | ⟨rfl, hc, hb⟩
  · exact issued_byteOp hc hb hp he
  · rw [exec_txb_own (by rw [State.unitOp, hc]) he, held_eq hc hb]

theorem exec_recv_eq {i : Instr} {dev d : Byte} {has : Bool} (he : s.error = false) (hd : d = if has then dev else 0)
    (h : (i = .recv dev has ∧ s.ctl = .READY ∧ s.busy = false ∧ s.phase = .LISTEN) ∨
      (i = .rxb d ∧ s.ctl = .OP_RECV d ∧ s.busy = true)) :
    exec i s = rxStep { s with ctl := .OP_RECV d, busy := true } := by
  rcases h with ⟨rfl, hc, hb, hp⟩ | ⟨rfl, hc, hb⟩
  · subst hd
    exact issued_byteOp hc hb hp he
  · rw [exec_rxb_own (by rw [State.unitOp, hc]) he, held_eq hc hb]

/-! ### Undo-turnaround (R225, R227, R234) -/

/-- With CLOCK released by the host, undo-turnaround takes five steps, the last of them `sendEOI`'s return. -/
theorem run_undoTurnaround (h : s.unitAlone) (hc : s.ctl = .UT_PULL_DATA) (hclk : s.host.clock = .RELEASED) :
    run 5 s = .next (State.ret (.bool true)
      { s with lines := { s.lines with clock := .idle, data := .pulled }, phase := .TALK_DONE }) := by
  have hpull : step s = .next { s.pull .DATA with ctl := .UT_D1 } := by
    rw [step_unitAlone h, unitTurn_operate (by rw [State.unitOp, hc]) rfl, undoTurnaroundStep, hc]
    rfl
  have hwait : step { s with lines := { s.lines with clock := .idle, data := .pulled }, ctl := .UT_WAIT } =
      .next (State.ret (.bool true)
        { s with lines := { s.lines with clock := .idle, data := .pulled }, phase := .TALK_DONE }) := by
    rw [step_unitAlone (by exact h), unitTurn_undoWait rfl, waitUntil, if_pos]
    · rfl
    · rw [level_clock, LineReg.contrib_idle, wiredOr_released]
      exact hclk
  rw [run_next hpull]
  refine Eq.trans (run_next (step_own (by exact h) (i := .undoTurnaround) rfl) 3) ?_
  refine Eq.trans (run_next (step_rel (by exact h) rfl rfl) 2) ?_
  refine Eq.trans (run_next (step_own (by exact h) (i := .undoTurnaround) rfl) 1) ?_
  exact run_next hwait 0

/-- A send's answer waiting in the script leaves the move to the unit (log 1). -/
theorem step_hListen {a : TxAnswer} {rest : List Turn} (hf : s.faults = .empty) (hs : s.script = .hListen a :: rest) :
    step s = unitTurn s :=
  step_eq_unitTurn hf (mover_unit (.inr (.inr (.inl ⟨a, rest, hs⟩))))

end Sys2Proof.Machine

open Sys2Proof Sys2Proof.Machine

/-- Settles O38: issued or held, the step is `txStep` at OP_SEND. -/
theorem sendReturnsWhetherAcknowledged : Obligations.SendReturnsWhetherAcknowledged := by
  refine ⟨fun s i b hl he h => ?_, fun s b hc => by rw [State.unitOp, hc]⟩
  rw [exec_send_eq he h]
  refine ⟨fun rest hs => ?ack, fun rest hs => ⟨_, _, drawReg_legal s.draws, drawReg_legal (s.draws + 1), ?fail⟩,
    fun hs => ?hold⟩
  case ack => exact Eq.trans (txStep_answered (by exact hl) (by exact hs) b false) rfl
  case fail => exact Eq.trans (txStep_answered (by exact hl) (by exact hs) b false) rfl
  case hold => exact txStep_unanswered (by exact hl) (by exact hs) b false

/-- Settles O40: issued or held, the step is `txStep` at OP_SENDEOI; an acknowledged byte is followed by undo-turnaround. -/
theorem sendEoiRunsUndoTurnaround : Obligations.SendEoiRunsUndoTurnaround := by
  refine ⟨fun s i b hl he h => ?_, fun s b w str hc hb hp hl he hs hf hclk hline hd => ?_,
    fun s b hc => by rw [State.unitOp, hc]⟩
  · rw [exec_sendeoi_eq he h]
    refine ⟨fun rest hs => ?ack, fun rest hs => ⟨_, _, drawReg_legal s.draws, drawReg_legal (s.draws + 1), ?fail⟩,
      fun hs => ?hold⟩
    case ack => exact Eq.trans (txStep_answered (by exact hl) (by exact hs) b true) rfl
    case fail => exact Eq.trans (txStep_answered (by exact hl) (by exact hs) b true) rfl
    case hold => exact txStep_unanswered (by exact hl) (by exact hs) b true
  · have hack : step s =
        .next (State.byteSent true { s with ctl := .UT_PULL_DATA, busy := true, script := [] }) := by
      rw [step_hListen hf hs, unitTurn_line hc hline hd, exec_sendeoi_eq he (.inl ⟨rfl, hc, hb, hp⟩)]
      exact Eq.trans (txStep_answered (by exact hl) (by exact hs) b true) rfl
    rw [run_next hack, run_undoTurnaround ⟨rfl, by exact hf⟩ rfl (by exact hclk)]
    simp only [State.ret, State.finish, State.byteSent, hc, hb]
    rfl

/-- Settles O42: issued in either form or held, the step is `rxStep` at OP_RECV. -/
theorem receiveReturnsTheByteOrError : Obligations.ReceiveReturnsTheByteOrError := by
  refine ⟨fun s i dev d has hl he hd h => ?_, fun s d hc => by rw [State.unitOp, hc]⟩
  rw [exec_recv_eq he hd h]
  refine ⟨fun b eoi rest hs => ?ok,
    fun rest hs => ⟨rxErr_negative _, _, _, drawReg_legal s.draws, drawReg_legal (s.draws + 1), ?fail⟩, fun hs => ?hold⟩
  case ok => exact Eq.trans (rxStep_answered (by exact hl) (by exact hs)) rfl
  case fail => exact Eq.trans (rxStep_answered (by exact hl) (by exact hs)) rfl
  case hold => exact rxStep_unanswered (by exact hl) (by exact hs)

end

section
/-! `send(string)` at level T (R232, R233): the bytes acknowledged one by one, by induction on how many there are (O39). -/

namespace Sys2Proof.Machine

variable {s : State}

/-! ### One byte of the string -/

/-- The string operand of the caller's line stands where `send(string)` reads it (log 23). -/
theorem callerString_of_line {w : OpWord} {str : List Byte} (hp : s.prog[s.pc]? = some (.op w str)) : s.callerString = str := by
  rw [State.callerString, hp]

theorem unitOp_sends {n : Nat} {b : Byte} (hc : s.ctl = .OP_SENDS n) (hb : s.callerString[n]? = some b) :
    s.unitOp = some (.txb b false) := by
  simp only [State.unitOp, hc, hb]

theorem sendsStep_byte {n : Nat} {b : Byte} (hc : s.ctl = .OP_SENDS n) (hb : s.callerString[n]? = some b) :
    sendsStep s = txStep b false s := by
  simp only [sendsStep, hc, hb]

theorem sendsStep_end {n : Nat} (hc : s.ctl = .OP_SENDS n) (hn : s.callerString[n]? = none) :
    sendsStep s = .next (s.ret (.bool true)) := by
  simp only [sendsStep, hc, hn]

/-- A byte acknowledged before the last one leads to the next byte. -/
theorem afterTx_sends_more {n : Nat} (hc : s.ctl = .OP_SENDS n) (hn : n + 1 < s.callerString.length) :
    afterTx true s = goto (.OP_SENDS (n + 1)) s := by
  simp only [afterTx, hc, hn, decide_true, Bool.and_self, if_true]

theorem afterTx_sends_last {n : Nat} (hc : s.ctl = .OP_SENDS n) (hn : n + 1 = s.callerString.length) :
    afterTx true s = .next (s.ret (.bool true)) := by
  simp only [afterTx, hc, hn, Nat.lt_irrefl, decide_false, Bool.and_false, Bool.false_eq_true, if_false]

theorem afterTx_sends_failed {n : Nat} (hc : s.ctl = .OP_SENDS n) : afterTx false s = .next (s.ret (.bool false)) := by
  simp only [afterTx, hc, Bool.false_and, Bool.false_eq_true, if_false]

/-! ### The bytes in order -/

/-- The unit is at byte `n` of `send(string)` at level T, with ERROR clear and no fault recorded. -/
structure State.Sending (s : State) (n : Nat) : Prop where
  ctl : s.ctl = .OP_SENDS n
  level : s.params.byteLevel = .T
  error : s.error = false
  faults : s.faults = .empty
  inside : n < s.callerString.length

/-- The state after a byte has been acknowledged, at the next step `c`. -/
def State.acked (c : Ctl) (rest : List Turn) (s : State) : State :=
  { s.byteSent false with ctl := c, script := rest }

/-- Acknowledging a second byte changes the control state and the script alone. -/
theorem acked_acked (c c' : Ctl) (rest rest' : List Turn) (s : State) :
    (s.acked c rest).acked c' rest' = s.acked c' rest' := by
  have hflags : s.flags &&& 0xFD#8 &&& 0xFD#8 = s.flags &&& 0xFD#8 := by rw [BitVec.and_assoc, BitVec.and_self]
  simp only [State.acked, State.byteSent, flagsWriteEoi, Bool.false_eq_true, if_false, hflags]

namespace State.Sending

variable {n : Nat} {rest : List Turn}

theorem step_eq {a : TxAnswer} (h : s.Sending n) (hs : s.script = .hListen a :: rest) :
    step s = txAnswered false a { s with script := rest } := by
  have hb := List.getElem?_eq_getElem h.inside
  have hu := unitOp_sends h.ctl hb
  rw [step_hListen h.faults hs, unitTurn_own hu, exec_txb_own hu h.error, txStep_answered h.level hs]

theorem step_more (h : s.Sending n) (hs : s.script = .hListen .ack :: rest) (hn : n + 1 < s.callerString.length) :
    step s = .next (s.acked (.OP_SENDS (n + 1)) rest) := by
  rw [h.step_eq hs]
  exact afterTx_sends_more (by exact h.ctl) (by exact hn)

theorem step_last (h : s.Sending n) (hs : s.script = .hListen .ack :: rest) (hn : n + 1 = s.callerString.length) :
    step s = .next ((s.acked s.ctl rest).ret (.bool true)) := by
  rw [h.step_eq hs]
  exact afterTx_sends_last (by exact h.ctl) (by exact hn)

theorem step_failed (h : s.Sending n) (hs : s.script = .hListen .fail :: rest) :
    step s = .next (State.ret (.bool false) (State.byteFailed { s with script := rest })) := by
  rw [h.step_eq hs]
  exact afterTx_sends_failed (by exact h.ctl)

/-- The next byte is sent from the same registers. -/
theorem next (h : s.Sending n) (hn : n + 1 < s.callerString.length) : (s.acked (.OP_SENDS (n + 1)) rest).Sending (n + 1) :=
  ⟨rfl, h.level, (flagsWriteEoi_bit0 false s.flags).trans h.error, h.faults, hn⟩

/-- `k + 1` acknowledged bytes, with more to come. -/
theorem run_more (k : Nat) (h : s.Sending n) (hs : s.script = List.replicate (k + 1) (.hListen .ack) ++ rest)
    (hn : n + (k + 1) < s.callerString.length) : run (k + 1) s = .next (s.acked (.OP_SENDS (n + (k + 1))) rest) := by
  induction k generalizing s n with
  | zero => exact run_next (h.step_more hs hn) 0
  | succ k ih =>
    have hmore : n + 1 < s.callerString.length := by omega
    have hrest : n + 1 + (k + 1) < s.callerString.length := by omega
    have hstep : step s = .next (s.acked (.OP_SENDS (n + 1)) (List.replicate (k + 1) (.hListen .ack) ++ rest)) :=
      h.step_more hs hmore
    rw [run_next hstep, ih (h.next hmore) rfl hrest, acked_acked,
      Nat.add_right_comm, Nat.add_assoc]

/-- The last `k + 1` bytes of the string, all acknowledged. -/
theorem run_all (k : Nat) (h : s.Sending n) (hs : s.script = List.replicate (k + 1) (.hListen .ack) ++ rest)
    (hn : n + (k + 1) = s.callerString.length) :
    run (k + 1) s = .next ((s.acked .READY rest).ret (.bool true)) := by
  induction k generalizing s n with
  | zero => exact run_next (h.step_last hs hn) 0
  | succ k ih =>
    have hmore : n + 1 < s.callerString.length := by omega
    have hrest : n + 1 + (k + 1) = s.callerString.length := by omega
    have hstep : step s = .next (s.acked (.OP_SENDS (n + 1)) (List.replicate (k + 1) (.hListen .ack) ++ rest)) :=
      h.step_more hs hmore
    rw [run_next hstep, ih (h.next hmore) rfl hrest, acked_acked]

/-- `k` acknowledged bytes and then one that is not: the flags and the draw are those of the failure. -/
theorem run_failed (k : Nat) (h : s.Sending n) (hs : s.script = List.replicate k (.hListen .ack) ++ .hListen .fail :: rest)
    (hn : n + k < s.callerString.length) :
    run (k + 1) s = .next (State.ret (.bool false) (State.byteFailed { s with script := rest })) := by
  induction k generalizing s n with
  | zero => exact run_next (h.step_failed hs) 0
  | succ k ih =>
    have hmore : n + 1 < s.callerString.length := by omega
    have hrest : n + 1 + k < s.callerString.length := by omega
    have hflags : (s.flags &&& 0xFD#8 ||| 0x01#8) &&& 0xFD#8 = (s.flags ||| 0x01#8) &&& 0xFD#8 := by
      generalize s.flags = f
      revert f
      decide
    have hstep : step s = .next (s.acked (.OP_SENDS (n + 1)) (List.replicate k (.hListen .ack) ++ .hListen .fail :: rest)) :=
      h.step_more hs hmore
    rw [run_next hstep, ih (h.next hmore) rfl hrest]
    simp only [State.acked, State.byteSent, State.byteFailed, flagsWriteEoi, Bool.false_eq_true, if_false, hflags]
    rfl

end State.Sending

/-! ### The issue (log 6) -/

theorem exec_sends_issued {str : List Byte} (hc : s.ctl = .READY) (hb : s.busy = false) (hp : s.phase = .TALK)
    (hstr : s.callerString = str) (he : s.error = false ∨ str = []) :
    exec .sends s = sendsStep { s with ctl := .OP_SENDS 0, busy := true } := by
  have hsticky : s.sendsAdmission.sticky = false := by
    rcases he with he | he <;> simp [State.sendsAdmission, hstr, he]
  exact operate_admitted hc hb (decide_eq_true hp) rfl hsticky

theorem sending_issued {str : List Byte} (hstr : s.callerString = str) (hl : s.params.byteLevel = .T) (he : s.error = false)
    (hf : s.faults = .empty) (hn : 0 < str.length) : State.Sending { s with ctl := .OP_SENDS 0, busy := true } 0 :=
  ⟨rfl, hl, he, hf, by subst hstr; exact hn⟩

/-- Two states with the same step have the same runs. -/
theorem run_of_step_eq {t : State} (h : step s = step t) (n : Nat) : run (n + 1) s = run (n + 1) t := by
  cases ht : step t with
  | next u => rw [run_next (h.trans ht), run_next ht]
  | fault x => rw [run_fault (h.trans ht), run_fault ht]
  | refused x => rw [run_refused (h.trans ht), run_refused ht]

/-- With a byte to send and an answer waiting, the issue is the step at OP_SENDS(0). -/
theorem run_sends_issued {str : List Byte}
    (hline : s.prog[s.pc]? = some (.op 0x12000000#32 str)) (hc : s.ctl = .READY) (hb : s.busy = false) (hp : s.phase = .TALK)
    (hs : ∃ a rest, s.script = .hListen a :: rest) (h : State.Sending { s with ctl := .OP_SENDS 0, busy := true } 0) (n : Nat) :
    run (n + 1) s = run (n + 1) { s with ctl := .OP_SENDS 0, busy := true } := by
  obtain ⟨a, rest, hs⟩ := hs
  refine run_of_step_eq ?_ n
  have hbyte := List.getElem?_eq_getElem h.inside
  rw [step_hListen (by exact h.faults) hs, unitTurn_line hc hline (by rfl),
    exec_sends_issued hc hb hp rfl (.inl (by exact h.error)), sendsStep_byte rfl hbyte, h.step_eq hs]
  exact txStep_answered (by exact h.level) (by exact hs) _ _

end Sys2Proof.Machine

open Sys2Proof Sys2Proof.Machine

/-- Settles O39: the issue is the step at OP_SENDS(0), from which the bytes are acknowledged by induction; the failure is the last
step of its run. -/
theorem sendStringStopsAtTheFirstFailure : Obligations.SendStringStopsAtTheFirstFailure := by
  intro s str hl hline
  have hstr : s.callerString = str := callerString_of_line hline
  refine ⟨fun hc hb hp hf => ⟨fun he => ?empty, fun he hne hs => ?hold, fun he n rest h0 hn hs => ?more,
    fun he rest hne hs => ?all, fun he n rest hn hs => ?failed⟩, fun n b hc hbyte => ⟨?offer, fun he => ?byte⟩⟩
  case empty =>
    have hnone : s.callerString[0]? = none := by rw [hstr, he]; rfl
    rw [exec_sends_issued hc hb hp hstr (.inr he), sendsStep_end rfl (by exact hnone)]
    simp only [State.ret, State.finish, hc, hb]
  case hold =>
    have hbyte := List.getElem?_eq_getElem (hstr ▸ List.length_pos_iff.mpr hne)
    rw [exec_sends_issued hc hb hp hstr (.inl he), sendsStep_byte rfl (by exact hbyte)]
    exact txStep_unanswered (by exact hl) (by exact hs) _ _
  case more =>
    obtain ⟨k, rfl⟩ := Nat.exists_eq_add_one.mpr h0
    have h := sending_issued hstr hl he hf (by omega)
    rw [run_sends_issued hline hc hb hp ⟨_, _, hs⟩ h, h.run_more k hs (by rw [Nat.zero_add]; exact hstr ▸ hn), Nat.zero_add]
    rfl
  case all =>
    have hpos : 0 < str.length := List.length_pos_iff.mpr hne
    obtain ⟨k, hk⟩ := Nat.exists_eq_add_one.mpr hpos
    have h := sending_issued hstr hl he hf hpos
    rw [hk] at hs ⊢
    rw [run_sends_issued hline hc hb hp ⟨_, _, hs⟩ h, h.run_all k hs (by rw [Nat.zero_add, ← hk, ← hstr]; rfl)]
    simp only [State.acked, State.ret, State.finish, State.byteSent, hc, hb]
    rfl
  case failed =>
    have h := sending_issued hstr hl he hf (by omega)
    refine ⟨_, _, drawReg_legal s.draws, drawReg_legal (s.draws + 1), ?_⟩
    have hhead : ∃ a rest, s.script = Turn.hListen a :: rest := by cases n <;> exact ⟨_, _, hs⟩
    rw [run_sends_issued hline hc hb hp hhead h, h.run_failed n hs (by rw [Nat.zero_add]; exact hstr ▸ hn)]
    simp only [State.ret, State.finish, State.byteFailed, hc, hb]
  case offer => exact unitOp_sends hc (hstr ▸ hbyte)
  case byte =>
    rw [exec_txb_own (unitOp_sends hc (hstr ▸ hbyte)) he]
    refine ⟨fun rest hs hn => ?_, fun rest hs hn => ?_,
      fun rest hs => ⟨_, _, drawReg_legal s.draws, drawReg_legal (s.draws + 1), ?_⟩,
      fun hs => txStep_unanswered hl hs b false⟩
    · rw [txStep_answered hl hs]
      exact afterTx_sends_more (by exact hc) (by exact hstr ▸ hn)
    · rw [txStep_answered hl hs]
      exact afterTx_sends_last (by exact hc) (by exact hstr ▸ hn)
    · rw [txStep_answered hl hs]
      exact afterTx_sends_failed (by exact hc)

end

section
/-! How a level-L byte transaction ends (R150): as the level-T one, but for the lines, the byte level and the counter of free
values, which nothing that follows a transaction reads or writes. -/

namespace Sys2Proof.Machine

variable {s : State}

/-! ### What follows a transaction keeps the lines -/

/-- The state with other parameters, lines and counter of free values. -/
def State.relined (p : Params) (u : UnitLines) (n : Nat) (s : State) : State := { s with params := p, lines := u, draws := n }

/-- The outcome with other parameters, lines and counter in its next state. -/
def relinedOut (p : Params) (u : UnitLines) (n : Nat) : Out → Out
  | .next t => .next (t.relined p u n)
  | .fault x => .fault x
  | .refused x => .refused x

variable {p : Params} {u : UnitLines} {n : Nat}

/-- Of the parameters a received byte reads CMD_MAX alone (R206). -/
theorem accumulateByte_relined (hp : p.cmdMax = s.params.cmdMax) (c : Byte) :
    accumulateByte c (s.relined p u n) = relinedOut p u n (accumulateByte c s) := by
  simp only [accumulateByte, State.relined, hp]
  split_ifs
  · rfl
  · rfl
  · cases s.data.content with
    | none => rfl
    | some str =>
      simp only [readField_some]
      split_ifs <;> rfl

theorem afterRx_relined (hp : p.cmdMax = s.params.cmdMax) (v : Word16) :
    afterRx v (s.relined p u n) = relinedOut p u n (afterRx v s) := by
  have hctl : (s.relined p u n).ctl = s.ctl := rfl
  cases hc : s.ctl with
  | SV_PRIMARY | SV_SECONDARY =>
    simp only [afterRx, hctl, hc]
    split_ifs <;> rfl
  | SV_ACC_RX =>
    simp only [afterRx, hctl, hc]
    split_ifs
    · rfl
    · exact accumulateByte_relined hp _
  | _ =>
    simp only [afterRx, hctl, hc]
    rfl

theorem afterTx_relined (ok : Bool) (s : State) :
    afterTx ok (s.relined p u n) = relinedOut p u n (afterTx ok s) := by
  have hctl : (s.relined p u n).ctl = s.ctl := rfl
  have hstr : (s.relined p u n).callerString = s.callerString := rfl
  cases hc : s.ctl with
  | OP_SENDS i | OP_SENDEOI b =>
    simp only [afterTx, hctl, hstr, hc]
    split_ifs <;> rfl
  | _ =>
    simp only [afterTx, hctl, hc]
    rfl

theorem afterRx_relined_next {v : Word16} {t : State} (h : afterRx v s = .next t) (hp : p.cmdMax = s.params.cmdMax) :
    afterRx v (s.relined p u n) = .next (t.relined p u n) := by
  rw [afterRx_relined hp, h]
  rfl

theorem afterTx_relined_next {ok : Bool} {t : State} (h : afterTx ok s = .next t) :
    afterTx ok (s.relined p u n) = .next (t.relined p u n) := by
  rw [afterTx_relined, h]
  rfl

/-- The counter of free values is kept, since the state relined with its own values is itself. -/
theorem afterRx_draws {v : Word16} {t : State} (h : afterRx v s = .next t) : t.draws = s.draws := by
  have hself : afterRx v s = .next (t.relined s.params s.lines s.draws) := afterRx_relined_next h rfl
  have ht : t = t.relined s.params s.lines s.draws := Host.Outcome.next.inj (h.symm.trans hself)
  rw [ht]
  rfl

theorem afterTx_draws {ok : Bool} {t : State} (h : afterTx ok s = .next t) : t.draws = s.draws := by
  have hself : afterTx ok s = .next (t.relined s.params s.lines s.draws) := afterTx_relined_next h
  have ht : t = t.relined s.params s.lines s.draws := Host.Outcome.next.inj (h.symm.trans hself)
  rw [ht]
  rfl

/-! ### The level-T transaction that a level-L one stands for -/

/-- The same state at level T, with no handshake under way and the turns `script` to come. -/
def State.atLevelT (script : List Turn) (s : State) : State :=
  { s with params := { s.params with byteLevel := .T }, shake := .idle, script := script }

/-- The failed end of a level-L receive (R153). -/
theorem rxFailLine_refines {d : Byte} (hr : s.ctl.receives = true) (hu : s.unitOp = some (.rxb d)) (he : s.error = false)
    (hcontent : s.ctl = .SV_ACC_RX → s.data.content.isSome) (rest : List Turn) :
    ∃ t, exec (.rxb d) (s.atLevelT (.hTalk .fail :: rest)) = .next t ∧
      rxFailLine { s with script := rest } = .next (t.relined s.params s.lines s.draws) := by
  have hexec : exec (.rxb d) (s.atLevelT (.hTalk .fail :: rest)) = afterRx s.params.rxErr (s.atLevelT rest).byteFailed := by
    rw [rxb_own_answered (by exact hu) rfl (by exact he) rfl]
    rfl
  obtain ⟨t, ht⟩ := afterRx_advances (s := (s.atLevelT rest).byteFailed) s.params.rxErr hr hcontent
  exact ⟨t, hexec.trans ht, afterRx_relined_next ht rfl⟩

/-- The frame acknowledge ends a level-L receive with the byte and EOI assembled (R153). -/
theorem rxAck_refines {d : Byte} (hr : s.ctl.receives = true) (hu : s.unitOp = some (.rxb d)) (he : s.error = false)
    (hcontent : s.ctl = .SV_ACC_RX → s.data.content.isSome) (eoi : Bool) (acc : Byte) :
    ∃ t, exec (.rxb d) (s.atLevelT (.hTalk (.ok acc eoi) :: s.script)) = .next t ∧ t.draws = s.draws ∧
      rxLineStep .ack eoi acc s = .next (t.relined s.params { s.lines with data := .pulled } s.draws) := by
  have hexec : exec (.rxb d) (s.atLevelT (.hTalk (.ok acc eoi) :: s.script)) =
      afterRx (zext16 acc) ((s.atLevelT s.script).byteReceived eoi) := by
    rw [rxb_own_answered (by exact hu) rfl (by exact he) rfl]
    rfl
  obtain ⟨t, ht⟩ := afterRx_advances (s := (s.atLevelT s.script).byteReceived eoi) (zext16 acc) hr hcontent
  exact ⟨t, hexec.trans ht, (afterRx_draws ht).trans rfl, afterRx_relined_next ht rfl⟩

/-- The failed end of a level-L send (R156). -/
theorem txFailLine_refines {b : Byte} {last : Bool} (hs : s.ctl.transmits = true) (hu : s.unitOp = some (.txb b last))
    (he : s.error = false) (rest : List Turn) :
    ∃ t, exec (.txb b last) (s.atLevelT (.hListen .fail :: rest)) = .next t ∧
      txFailLine { s with script := rest } = .next (t.relined s.params s.lines s.draws) := by
  have hexec : exec (.txb b last) (s.atLevelT (.hListen .fail :: rest)) = afterTx false (s.atLevelT rest).byteFailed := by
    rw [exec_txb_own (by exact hu) (by exact he), txStep_answered rfl rfl]
    rfl
  obtain ⟨t, ht⟩ := afterTx_advances (s := (s.atLevelT rest).byteFailed) false hs
  exact ⟨t, hexec.trans ht, afterTx_relined_next ht⟩

/-- The last step of a level-L send ends it as acknowledged (R156). -/
theorem txBetweenBytes_refines {b : Byte} {last : Bool} (hs : s.ctl.transmits = true) (hu : s.unitOp = some (.txb b last))
    (he : s.error = false) :
    ∃ t, exec (.txb b last) (s.atLevelT (.hListen .ack :: s.script)) = .next t ∧ t.draws = s.draws ∧
      txLineStep b last .betweenBytes s = .next (t.relined s.params s.lines s.draws) := by
  have hexec : exec (.txb b last) (s.atLevelT (.hListen .ack :: s.script)) =
      afterTx true ((s.atLevelT s.script).byteSent last) := by
    rw [exec_txb_own (by exact hu) (by exact he), txStep_answered rfl rfl]
    rfl
  obtain ⟨t, ht⟩ := afterTx_advances (s := (s.atLevelT s.script).byteSent last) true hs
  exact ⟨t, hexec.trans ht, (afterTx_draws ht).trans rfl, afterTx_relined_next ht⟩

end Sys2Proof.Machine

end

section
/-! The level-L receive (R153, R154, R155): what one step of it can do, and each step in turn (O58). -/

namespace Sys2Proof.Machine

variable {s : State}

/-! ### The waits of level L (R151) -/

theorem waitFree_seen {l : Line} {v : Level} {seen : State → Out} (h : s.level l = v) : waitFree l v seen s = seen s := if_pos h

theorem waitFree_hold {l : Line} {v : Level} {seen : State → Out} (h : s.level l ≠ v) : waitFree l v seen s = .next s :=
  if_neg h

theorem waitWithin_seen {l : Line} {v : Level} {seen late : State → Out} (h : s.level l = v) :
    waitWithin l v seen late s = seen s := if_pos h

theorem waitWithin_timeout {l : Line} {v : Level} {seen late : State → Out} {rest : List Turn} (h : s.level l ≠ v)
    (hs : s.script = .timeout :: rest) : waitWithin l v seen late s = late { s with script := rest } := by
  rw [waitWithin, if_neg h, hs]

theorem waitWithin_hold {l : Line} {v : Level} {seen late : State → Out} (h : s.level l ≠ v)
    (hs : ∀ rest, s.script ≠ .timeout :: rest) : waitWithin l v seen late s = .next s := by
  rcases waitWithin_cases l v seen late s with ⟨hv, _⟩ | ⟨_, e⟩ | ⟨_, rest, hrest, _⟩
  · exact absurd hv h
  · exact e
  · exact absurd hrest (hs rest)

/-! ### The current step of a receive -/

/-- A level-L receive under way takes its step. -/
theorem exec_rxb_line {d : Byte} {p : RxStep} {eoi : Bool} {acc : Byte} (hl : s.params.byteLevel = .L)
    (hu : s.unitOp = some (.rxb d)) (he : s.error = false) (hk : s.shake = .rx p eoi acc) :
    exec (.rxb d) s = rxLineStep p eoi acc s := by
  simp only [exec_rxb_own hu he, rxStep, hl, hk]

/-- A level-L receive starts with the ready wait. -/
theorem exec_rxb_lineStart {d : Byte} (hl : s.params.byteLevel = .L) (hu : s.unitOp = some (.rxb d)) (he : s.error = false)
    (hk : ∀ p eoi acc, s.shake ≠ .rx p eoi acc) : exec (.rxb d) s = rxLineStep .waitReady false 0 s := by
  rw [exec_rxb_own hu he, rxStep, hl]
  cases h : s.shake with
  | idle | tx p => rfl
  | rx p eoi acc => exact absurd h (hk p eoi acc)

/-- The receive's current step: the handshake's own, or the first. -/
theorem exec_rxb_line_cases {d : Byte} (hl : s.params.byteLevel = .L) (hu : s.unitOp = some (.rxb d)) (he : s.error = false) :
    (∃ p eoi acc, s.shake = .rx p eoi acc ∧ exec (.rxb d) s = rxLineStep p eoi acc s) ∨
    ((∀ p eoi acc, s.shake ≠ .rx p eoi acc) ∧ exec (.rxb d) s = rxLineStep .waitReady false 0 s) := by
  by_cases hk : ∃ p eoi acc, s.shake = .rx p eoi acc
  · obtain ⟨p, eoi, acc, hk⟩ := hk
    exact .inl ⟨p, eoi, acc, hk, exec_rxb_line hl hu he hk⟩
  · have hne : ∀ p eoi acc, s.shake ≠ .rx p eoi acc := fun p eoi acc h => hk ⟨p, eoi, acc, h⟩
    exact .inr ⟨hne, exec_rxb_lineStart hl hu he hne⟩

/-! ### Everything one step can do -/

/-- The receive is still under way: DATA, the script by a timeout and the handshake's position may have changed. -/
def RxUnderWay (s : State) (o : Out) : Prop :=
  ∃ (y : LineReg) (rest : List Turn) (k : Shake), s.lines.data.touched y ∧ (rest = s.script ∨ s.script = .timeout :: rest) ∧
    (k = s.shake ∨ ∃ p eoi acc, k = .rx p eoi acc) ∧
    o = .next { s with lines := { s.lines with data := y }, script := rest, shake := k }

theorem rxUnderWay_hold (s : State) : RxUnderWay s (.next s) :=
  ⟨s.lines.data, s.script, s.shake, .inl rfl, .inl rfl, .inl rfl, rfl⟩

theorem rxUnderWay_goto (p : RxStep) (eoi : Bool) (acc : Byte) (s : State) : RxUnderWay s (rxGoto p eoi acc s) :=
  ⟨s.lines.data, s.script, _, .inl rfl, .inl rfl, .inr ⟨p, eoi, acc, rfl⟩, rfl⟩

theorem rxUnderWay_release (p : RxStep) (eoi : Bool) (acc : Byte) (s : State) :
    RxUnderWay s (rxGoto p eoi acc (s.release .DATA)) :=
  ⟨.idle, s.script, _, .inr (.inl rfl), .inl rfl, .inr ⟨p, eoi, acc, rfl⟩, rfl⟩

theorem rxUnderWay_pull (p : RxStep) (eoi : Bool) (acc : Byte) (s : State) : RxUnderWay s (rxGoto p eoi acc (s.pull .DATA)) :=
  ⟨.pulled, s.script, _, .inr (.inr rfl), .inl rfl, .inr ⟨p, eoi, acc, rfl⟩, rfl⟩

/-- A timed wait goes on, holds, or fails with its timeout. -/
theorem rxWait_cases {v : Level} {seen : State → Out} (hseen : RxUnderWay s (seen s)) :
    RxUnderWay s (waitWithin .CLOCK v seen rxFailLine s) ∨
    ∃ rest, s.script = .timeout :: rest ∧ waitWithin .CLOCK v seen rxFailLine s = rxFailLine { s with script := rest } := by
  rcases waitWithin_cases .CLOCK v seen rxFailLine s with ⟨_, e⟩ | ⟨_, e⟩ | ⟨_, rest, hs, e⟩ <;> rw [e]
  · exact .inl hseen
  · exact .inl (rxUnderWay_hold s)
  · exact .inr ⟨rest, hs, rfl⟩

/-- The end of a bit cell is a timed wait that goes on to the next bit or to the frame acknowledge. -/
theorem rxLineStep_bitFall (i : Fin 8) (eoi : Bool) (acc : Byte) (s : State) :
    ∃ seen : State → Out, (∀ t, ∃ p, seen t = rxGoto p eoi acc t) ∧
      rxLineStep (.bitFall i) eoi acc s = waitWithin .CLOCK .PULLED seen rxFailLine s := by
  simp only [rxLineStep]
  cases nextBit i with
  | some j => exact ⟨_, fun t => ⟨.bitRise j, rfl⟩, rfl⟩
  | none => exact ⟨_, fun t => ⟨.ack, rfl⟩, rfl⟩

/-- Every step but the frame acknowledge leaves the receive under way, or fails with a timeout. -/
theorem rxLineStep_cases {p : RxStep} (hp : p ≠ .ack) (eoi : Bool) (acc : Byte) (s : State) :
    RxUnderWay s (rxLineStep p eoi acc s) ∨
    ∃ rest, s.script = .timeout :: rest ∧ rxLineStep p eoi acc s = rxFailLine { s with script := rest } := by
  cases p with
  | waitReady =>
    left
    rcases waitFree_cases .CLOCK .RELEASED (rxGoto .relData false 0) s with ⟨_, e⟩ | ⟨_, e⟩ <;> rw [rxLineStep, e]
    · exact rxUnderWay_goto _ _ _ s
    · exact rxUnderWay_hold s
  | waitEoi =>
    left
    rcases waitWithin_cases .CLOCK .PULLED (rxGoto (.bitRise 0) eoi acc) (rxGoto .eoiPull true acc) s with
      ⟨_, e⟩ | ⟨_, e⟩ | ⟨_, rest, hs, e⟩ <;> rw [rxLineStep, e]
    · exact rxUnderWay_goto _ _ _ s
    · exact rxUnderWay_hold s
    · exact ⟨s.lines.data, rest, _, .inl rfl, .inr hs, .inr ⟨_, _, _, rfl⟩, rfl⟩
  | relData | eoiRel => exact .inl (rxUnderWay_release _ _ _ s)
  | eoiPull => exact .inl (rxUnderWay_pull _ _ _ s)
  | eoiHold | bitSample => exact .inl (rxUnderWay_goto _ _ _ s)
  | eoiEnd | bitRise => exact rxWait_cases (rxUnderWay_goto _ _ _ s)
  | bitFall i =>
    obtain ⟨seen, hseen, e⟩ := rxLineStep_bitFall i eoi acc s
    obtain ⟨p, hp⟩ := hseen s
    rw [e]
    exact rxWait_cases (hp ▸ rxUnderWay_goto p eoi acc s)
  | ack => exact absurd rfl hp

end Sys2Proof.Machine

open Sys2Proof Sys2Proof.Machine

/-- Settles O58: a step but the last leaves the receive under way or fails with a timeout, and the last ends it; the ends are those
of the level-T receive. -/
theorem lineLevelReceiveRefinesTheRendezvous : Obligations.LineLevelReceiveRefinesTheRendezvous := by
  refine ⟨fun s d hl hr hu he hclk hdata hcontent => ?refines, fun s d eoi acc hl hr hu he hcontent => ?steps⟩
  case refines =>
    have hend : (∃ eoi acc, s.shake = .rx .ack eoi acc ∧ exec (.rxb d) s = rxLineStep .ack eoi acc s) ∨
        ((∀ eoi acc, s.shake ≠ .rx .ack eoi acc) ∧ (RxUnderWay s (exec (.rxb d) s) ∨
          ∃ rest, s.script = .timeout :: rest ∧ exec (.rxb d) s = rxFailLine { s with script := rest })) := by
      rcases exec_rxb_line_cases hl hu he with ⟨p, eoi, acc, hk, e⟩ | ⟨hk, e⟩ <;> rw [e]
      · by_cases hp : p = .ack
        · subst hp
          exact .inl ⟨eoi, acc, hk, rfl⟩
        · refine .inr ⟨fun eoi' acc' h => hp ?_, rxLineStep_cases hp eoi acc s⟩
          cases hk.symm.trans h
          rfl
      · exact .inr ⟨hk .ack, rxLineStep_cases (p := .waitReady) nofun false 0 s⟩
    rcases hend with ⟨eoi, acc, hk, e⟩ | ⟨hk, ⟨y, rest, k, hy, hrest, hshake, e⟩ | ⟨rest, hs, e⟩⟩
    · obtain ⟨t, ht, _, hline⟩ := rxAck_refines hr hu he hcontent eoi acc
      refine ⟨_, s.script, .pulled, e.trans hline, .inl rfl, .inr rfl,
        .inr ⟨_, t, ht, rfl, fun _ => rfl, fun eoi' acc' h => ?_⟩⟩
      cases hk.symm.trans h
      rfl
    · exact ⟨_, rest, y, e, hrest, hdata.touched hy, .inl ⟨k, rfl, hshake⟩⟩
    · obtain ⟨t, ht, hline⟩ := rxFailLine_refines hr hu he hcontent rest
      exact ⟨_, rest, s.lines.data, e.trans hline, .inr hs, hdata, .inr ⟨.fail, t, ht, rfl, fun h => absurd rfl h,
        fun eoi acc h => absurd h (hk eoi acc)⟩⟩
  case steps =>
    have hexec {p : RxStep} {eoi : Bool} {acc : Byte} (hk : s.shake = .rx p eoi acc) := exec_rxb_line hl hu he hk
    refine ⟨fun hk => ?ready, fun hk => (hexec hk).trans rfl, fun hk => ?eoiWait, fun hk => (hexec hk).trans rfl,
      fun hk => (hexec hk).trans rfl, fun hk => (hexec hk).trans rfl, fun hk hv => ?eoiEnd, fun v hk hv => ?timed,
      fun hk => ?ack⟩
    case ready =>
      have hready : exec (.rxb d) s = waitFree .CLOCK .RELEASED (rxGoto .relData false 0) s := by
        rcases hk with hk | hk
        · exact exec_rxb_lineStart hl hu he (by simp [hk])
        · exact hexec hk
      rw [hready]
      exact ⟨fun hv => waitFree_seen hv, fun hv => waitFree_hold (level_ne_released.mpr hv)⟩
    case eoiWait =>
      rw [hexec hk]
      exact ⟨fun hv => waitWithin_seen hv, fun hv => ⟨fun rest hs => waitWithin_timeout (level_ne_pulled.mpr hv) hs,
        fun hs => waitWithin_hold (level_ne_pulled.mpr hv) hs⟩⟩
    case eoiEnd => exact (hexec hk).trans (waitWithin_seen hv)
    case timed =>
      have hwait : ∃ seen, exec (.rxb d) s = waitWithin .CLOCK v seen rxFailLine s := by
        rcases hk with ⟨hk, rfl⟩ | ⟨i, hk, rfl⟩ | ⟨i, hk, rfl⟩
        · exact ⟨_, hexec hk⟩
        · exact ⟨_, hexec hk⟩
        · obtain ⟨seen, _, e⟩ := rxLineStep_bitFall i eoi acc s
          exact ⟨seen, (hexec hk).trans e⟩
      obtain ⟨seen, hwait⟩ := hwait
      rw [hwait]
      refine ⟨fun rest hs => ?_, fun hs => waitWithin_hold hv hs⟩
      rw [waitWithin_timeout hv hs]
      exact rxFailLine_refines hr hu he hcontent rest
    case ack =>
      obtain ⟨t, ht, hdraws, hline⟩ := rxAck_refines hr hu he hcontent eoi acc
      refine ⟨t, ht, (hexec hk).trans (hline.trans ?_)⟩
      rw [← hdraws]
      rfl

end

section
/-! The level-L send (R156, R157, R158): what one step of it can do, and each step in turn (O59). -/

namespace Sys2Proof.Machine

variable {s : State}

/-! ### The current step of a send -/

/-- A level-L send under way takes its step. -/
theorem exec_txb_line {b : Byte} {last : Bool} {p : TxStep} (hl : s.params.byteLevel = .L)
    (hu : s.unitOp = some (.txb b last)) (he : s.error = false) (hk : s.shake = .tx p) :
    exec (.txb b last) s = txLineStep b last p s := by
  simp only [exec_txb_own hu he, txStep, hl, hk]

/-- A level-L send starts with the release of CLOCK. -/
theorem exec_txb_lineStart {b : Byte} {last : Bool} (hl : s.params.byteLevel = .L) (hu : s.unitOp = some (.txb b last))
    (he : s.error = false) (hk : ∀ p, s.shake ≠ .tx p) : exec (.txb b last) s = txLineStep b last .relClk s := by
  rw [exec_txb_own hu he, txStep, hl]
  cases h : s.shake with
  | idle | rx p eoi acc => rfl
  | tx p => exact absurd h (hk p)

/-- The send's current step: the handshake's own, or the first. -/
theorem exec_txb_line_cases {b : Byte} {last : Bool} (hl : s.params.byteLevel = .L) (hu : s.unitOp = some (.txb b last))
    (he : s.error = false) :
    (∃ p, s.shake = .tx p ∧ exec (.txb b last) s = txLineStep b last p s) ∨
    ((∀ p, s.shake ≠ .tx p) ∧ exec (.txb b last) s = txLineStep b last .relClk s) := by
  by_cases hk : ∃ p, s.shake = .tx p
  · obtain ⟨p, hk⟩ := hk
    exact .inl ⟨p, hk, exec_txb_line hl hu he hk⟩
  · have hne : ∀ p, s.shake ≠ .tx p := fun p h => hk ⟨p, h⟩
    exact .inr ⟨hne, exec_txb_lineStart hl hu he hne⟩

/-! ### Everything one step can do -/

/-- The send is still under way, at CLOCK and DATA `x` and `y` in the posture its end needs: the handshake's position has moved, or
the unit holds. -/
def TxUnderWay (s : State) (o : Out) : Prop :=
  ∃ (x y : LineReg) (k : Shake), s.lines.clock.touched x ∧ s.lines.data.touched y ∧ (k = s.shake ∨ ∃ p, k = .tx p) ∧
    lineSendPosture { s with lines := { s.lines with clock := x, data := y }, shake := k } ∧
    o = .next { s with lines := { s.lines with clock := x, data := y }, shake := k }

theorem txUnderWay_hold (h : lineSendPosture s) : TxUnderWay s (.next s) :=
  ⟨s.lines.clock, s.lines.data, s.shake, .inl rfl, .inl rfl, .inl rfl, h, rfl⟩

/-- The step that leaves CLOCK at `x` and DATA at `y` goes on to `p`. -/
theorem txUnderWay_goto {x y : LineReg} {p : TxStep} (hx : s.lines.clock.touched x) (hy : s.lines.data.touched y)
    (hp : lineSendPosture { s with lines := { s.lines with clock := x, data := y }, shake := .tx p }) :
    TxUnderWay s (txGoto p { s with lines := { s.lines with clock := x, data := y } }) :=
  ⟨x, y, _, hx, hy, .inr ⟨p, rfl⟩, hp, rfl⟩

/-- A step that touches no line. -/
theorem txUnderWay_next {p : TxStep} (hp : lineSendPosture { s with shake := .tx p }) : TxUnderWay s (txGoto p s) :=
  txUnderWay_goto (.inl rfl) (.inl rfl) hp

/-- A timed wait goes on, holds, or fails with its timeout. -/
theorem txWait_cases {v : Level} {p : TxStep} (h : lineSendPosture s) (hp : lineSendPosture { s with shake := .tx p }) :
    TxUnderWay s (waitWithin .DATA v (txGoto p) txFailLine s) ∨
    ∃ rest, s.script = .timeout :: rest ∧ waitWithin .DATA v (txGoto p) txFailLine s = txFailLine { s with script := rest } := by
  rcases waitWithin_cases .DATA v (txGoto p) txFailLine s with ⟨_, e⟩ | ⟨_, e⟩ | ⟨_, rest, hs, e⟩ <;> rw [e]
  · exact .inl (txUnderWay_next hp)
  · exact .inl (txUnderWay_hold h)
  · exact .inr ⟨rest, hs, rfl⟩

/-- The end of a bit cell releases DATA and goes on to the next bit or to the frame acknowledge. -/
theorem txLineStep_bitRelData (b : Byte) (last : Bool) (i : Fin 8) (s : State) :
    ∃ p, ((∃ j, p = .bitData j) ∨ p = .frameAck) ∧ txLineStep b last (.bitRelData i) s = txGoto p (s.release .DATA) := by
  simp only [txLineStep]
  cases nextBit i with
  | some j => exact ⟨_, .inl ⟨j, rfl⟩, rfl⟩
  | none => exact ⟨_, .inr rfl, rfl⟩

/-- Every step but the last leaves the send under way, or fails with a timeout. -/
theorem txLineStep_cases {p : TxStep} (hp : p ≠ .betweenBytes) (hk : s.shake = .tx p ∨ p = .relClk) (h : lineSendPosture s)
    (b : Byte) (last : Bool) :
    TxUnderWay s (txLineStep b last p s) ∨
    ∃ rest, s.script = .timeout :: rest ∧ txLineStep b last p s = txFailLine { s with script := rest } := by
  cases p with
  | relClk | bitRelClk => exact .inl (txUnderWay_goto (x := .idle) (.inr (.inl rfl)) (.inl rfl) trivial)
  | pullClk => exact .inl (txUnderWay_goto (x := .pulled) (.inr (.inr rfl)) (.inl rfl) trivial)
  | bitPullClk => exact .inl (txUnderWay_goto (x := .pulled) (.inr (.inr rfl)) (.inl rfl) rfl)
  | neDelay | bitSetup | bitHold => exact .inl (txUnderWay_next trivial)
  | waitReady =>
    left
    rcases waitFree_cases .DATA .RELEASED (txGoto (if last then .eoiPulled else .neDelay)) s with ⟨_, e⟩ | ⟨_, e⟩ <;>
      rw [txLineStep, e]
    · cases last <;> exact txUnderWay_next trivial
    · exact txUnderWay_hold h
  | eoiPulled | eoiReleased => exact txWait_cases h trivial
  | frameAck =>
    obtain hk | hk := hk
    · have hposture := h
      rw [lineSendPosture, hk] at hposture
      exact txWait_cases h hposture
    · cases hk
  | bitData i =>
    left
    rw [txLineStep, putBit]
    split
    · exact txUnderWay_goto (y := .idle) (.inl rfl) (.inr (.inl rfl)) trivial
    · exact txUnderWay_goto (y := .pulled) (.inl rfl) (.inr (.inr rfl)) trivial
  | bitRelData i =>
    left
    obtain hk | hk := hk
    · rw [lineSendPosture, hk] at h
      obtain ⟨p, hnext, e⟩ := txLineStep_bitRelData b last i s
      rw [e]
      refine txUnderWay_goto (y := .idle) (.inl rfl) (.inr (.inl rfl)) ?_
      rcases hnext with ⟨j, rfl⟩ | rfl
      · trivial
      · exact ⟨h, rfl⟩
    · cases hk
  | betweenBytes => exact absurd rfl hp

end Sys2Proof.Machine

open Sys2Proof Sys2Proof.Machine

/-- Settles O59: a step but the last leaves the send under way in its posture or fails with a timeout, and the last ends it in talker
posture; the ends are those of the level-T send. -/
theorem lineLevelSendRefinesTheRendezvous : Obligations.LineLevelSendRefinesTheRendezvous := by
  refine ⟨fun s b last hl ht hu he hclock hdata hposture => ?refines, fun s b last hl ht hu he => ?steps⟩
  case refines =>
    have hend : (s.shake = .tx .betweenBytes ∧ exec (.txb b last) s = txLineStep b last .betweenBytes s) ∨
        (s.shake ≠ .tx .betweenBytes ∧ (TxUnderWay s (exec (.txb b last) s) ∨
          ∃ rest, s.script = .timeout :: rest ∧ exec (.txb b last) s = txFailLine { s with script := rest })) := by
      rcases exec_txb_line_cases hl hu he with ⟨p, hk, e⟩ | ⟨hk, e⟩ <;> rw [e]
      · by_cases hp : p = .betweenBytes
        · subst hp
          exact .inl ⟨hk, rfl⟩
        · refine .inr ⟨fun h => hp ?_, txLineStep_cases hp (.inl hk) hposture b last⟩
          cases hk.symm.trans h
          rfl
      · exact .inr ⟨hk _, txLineStep_cases (p := .relClk) nofun (.inr rfl) hposture b last⟩
    rcases hend with ⟨hk, e⟩ | ⟨hk, ⟨x, y, k, hx, hy, hshake, hpost, e⟩ | ⟨rest, hs, e⟩⟩
    · obtain ⟨t, hexec, _, hline⟩ := txBetweenBytes_refines ht hu he
      rw [lineSendPosture, hk] at hposture
      exact ⟨_, s.script, s.lines.clock, s.lines.data, e.trans hline, .inl rfl, hclock, hdata,
        .inr ⟨.ack, t, hexec, rfl, fun _ => hposture, iff_of_true rfl hk⟩⟩
    · exact ⟨_, s.script, x, y, e, .inl rfl, hclock.touched hx, hdata.touched hy, .inl ⟨k, rfl, hshake, hpost⟩⟩
    · obtain ⟨t, hexec, hline⟩ := txFailLine_refines ht hu he rest
      exact ⟨_, rest, s.lines.clock, s.lines.data, e.trans hline, .inr hs, hclock, hdata,
        .inr ⟨.fail, t, hexec, rfl, nofun, iff_of_false nofun hk⟩⟩
  case steps =>
    have hexec {p : TxStep} (hk : s.shake = .tx p) := exec_txb_line hl hu he hk
    refine ⟨fun hk => ?start, fun hk => ?ready, fun hk hv => (hexec hk).trans (waitWithin_seen hv),
      fun hk hv => (hexec hk).trans (waitWithin_seen hv), fun hk => (hexec hk).trans rfl, fun hk => (hexec hk).trans rfl,
      fun hk hv => (hexec hk).trans (waitWithin_seen hv), fun v hk hv => ?timed, fun hk => ?ending⟩
    case start =>
      have hstart : exec (.txb b last) s = txLineStep b last .relClk s := by
        rcases hk with hk | hk
        · exact exec_txb_lineStart hl hu he (by simp [hk])
        · exact hexec hk
      exact hstart.trans rfl
    case ready =>
      rw [hexec hk]
      exact ⟨fun hv => waitFree_seen hv, fun hv => waitFree_hold (level_ne_released.mpr hv)⟩
    case timed =>
      have hwait : ∃ p, exec (.txb b last) s = waitWithin .DATA v (txGoto p) txFailLine s := by
        rcases hk with ⟨hk, rfl⟩ | ⟨hk, rfl⟩ | ⟨hk, rfl⟩ <;> exact ⟨_, hexec hk⟩
      obtain ⟨p, hwait⟩ := hwait
      rw [hwait]
      refine ⟨fun rest hs => ?_, fun hs => waitWithin_hold hv hs⟩
      rw [waitWithin_timeout hv hs]
      exact txFailLine_refines ht hu he rest
    case ending =>
      obtain ⟨t, htT, hdraws, hline⟩ := txBetweenBytes_refines ht hu he
      refine ⟨t, htT, (hexec hk).trans (hline.trans ?_)⟩
      rw [← hdraws]
      rfl

end

section
/-! The eight bit cells of a level-L byte (R152, R153, R155, R156): what a sample takes, the cell of a receive and of a send, and
the byte that a host hands over bit by bit (O60). -/

namespace Sys2Proof.Machine

variable {s : State}

/-! ### Bits on DATA (R152) -/

/-- A sample sets its own bit where DATA is released, and no other. -/
theorem getLsbD_sampleBit (l : Level) (i : Fin 8) (acc : Byte) (k : Nat) :
    (sampleBit l i acc).getLsbD k = (acc.getLsbD k || (decide (l = .RELEASED) && decide (i.val = k))) := by
  cases l with
  | PULLED => simp [sampleBit]
  | RELEASED =>
    have hone : (1#8 <<< i.val).getLsbD k = decide (i.val = k) := by
      rw [← BitVec.twoPow_eq, BitVec.getLsbD_twoPow, decide_eq_true i.isLt, Bool.true_and]
    simp [sampleBit, hone]

/-- The level of DATA that stands for bit `i` of the byte. -/
def bitLevel (b : Byte) (i : Fin 8) : Level := if b.getLsbD i.val then .RELEASED else .PULLED

theorem bitLevel_eq_released {b : Byte} {i : Fin 8} : bitLevel b i = .RELEASED ↔ b.getLsbD i.val = true := by
  simp [bitLevel]

/-- The byte assembled so far, after a sample of bit `i` of `b`. -/
def assembleBit (b acc : Byte) (i : Fin 8) : Byte := sampleBit (bitLevel b i) i acc

/-- Sampling the bits in `bits` sets exactly those of them that are 1 in `b`. -/
theorem getLsbD_foldl_assembleBit (b : Byte) (bits : List (Fin 8)) (acc : Byte) (k : Nat) :
    (bits.foldl (assembleBit b) acc).getLsbD k = true ↔
      acc.getLsbD k = true ∨ (b.getLsbD k = true ∧ ∃ i ∈ bits, i.val = k) := by
  induction bits generalizing acc with
  | nil => simp
  | cons i bits ih =>
    have hsample : (assembleBit b acc i).getLsbD k = true ↔
        acc.getLsbD k = true ∨ (b.getLsbD k = true ∧ i.val = k) := by
      simp only [assembleBit, getLsbD_sampleBit, Bool.or_eq_true, Bool.and_eq_true, decide_eq_true_eq, bitLevel_eq_released]
      exact or_congr_right (and_congr_left fun hik => by rw [hik])
    simp only [List.foldl_cons, ih, hsample, List.exists_mem_cons_iff, and_or_left, or_assoc]

/-- All eight bits of a byte give the byte. -/
theorem foldl_assembleBit_finRange (b : Byte) : (List.finRange 8).foldl (assembleBit b) 0#8 = b := by
  refine BitVec.eq_of_getLsbD_eq fun k hk => Bool.eq_iff_iff.mpr ?_
  have hmem : ∃ i ∈ List.finRange 8, i.val = k := ⟨⟨k, hk⟩, List.mem_finRange _, rfl⟩
  simp only [getLsbD_foldl_assembleBit, hmem, BitVec.getLsbD_zero, Bool.false_eq_true, false_or, and_true]

/-! ### The order of the bits (R152) -/

theorem nextBit_succ {i j : Fin 8} (h : j.val = i.val + 1) : nextBit i = some j := by
  have hlt : i.val + 1 < 8 := h ▸ j.isLt
  rw [nextBit, dif_pos hlt]
  exact congrArg some (Fin.ext h.symm)

theorem nextBit_last {i : Fin 8} (h : i.val = 7) : nextBit i = none := dif_neg (by omega)

/-- A receive's step after the cell of bit `i` (R153). -/
def RxStep.afterBit (i : Fin 8) : RxStep :=
  match nextBit i with
  | some j => .bitRise j
  | none => .ack

/-- A send's step after the cell of bit `i` (R156). -/
def TxStep.afterBit (i : Fin 8) : TxStep :=
  match nextBit i with
  | some j => .bitData j
  | none => .frameAck

/-- The bits from `i` on are `i` and the bits after it. -/
theorem drop_finRange (i : Fin 8) : (List.finRange 8).drop i.val = i :: (List.finRange 8).drop (i.val + 1) := by
  rw [List.drop_eq_getElem_cons (by simp), List.getElem_finRange]
  rfl

theorem RxStep.afterBit_succ {i j : Fin 8} (h : j.val = i.val + 1) : RxStep.afterBit i = .bitRise j := by
  rw [RxStep.afterBit, nextBit_succ h]

theorem RxStep.afterBit_last {i : Fin 8} (h : i.val = 7) : RxStep.afterBit i = .ack := by
  rw [RxStep.afterBit, nextBit_last h]

theorem TxStep.afterBit_succ {i j : Fin 8} (h : j.val = i.val + 1) : TxStep.afterBit i = .bitData j := by
  rw [TxStep.afterBit, nextBit_succ h]

theorem TxStep.afterBit_last {i : Fin 8} (h : i.val = 7) : TxStep.afterBit i = .frameAck := by
  rw [TxStep.afterBit, nextBit_last h]

/-! ### A handshake under way, whatever ERROR is (R131) -/

/-- The sticky-error check has been made once a handshake is under way. -/
theorem stickyCheck_underWay {k : State → Out} (hk : s.shake ≠ .idle) : stickyCheck k s = k s := if_neg fun h => hk h.1

theorem exec_rxb_underWay {d : Byte} {p : RxStep} {eoi : Bool} {acc : Byte} (hl : s.params.byteLevel = .L)
    (hu : s.unitOp = some (.rxb d)) (hk : s.shake = .rx p eoi acc) : exec (.rxb d) s = rxLineStep p eoi acc s := by
  rw [exec, execRxb, operate_own hu, stickyCheck_underWay (by simp [hk])]
  simp only [rxStep, hl, hk]

theorem exec_txb_underWay {b : Byte} {last : Bool} {p : TxStep} (hl : s.params.byteLevel = .L)
    (hu : s.unitOp = some (.txb b last)) (hk : s.shake = .tx p) : exec (.txb b last) s = txLineStep b last p s := by
  rw [exec, execTxb, operate_own hu, stickyCheck_underWay (by simp [hk])]
  simp only [txStep, hl, hk]

/-! ### The bit cell of a receive (R153, R155) -/

theorem rxLineStep_bitRise (hv : s.level .CLOCK = .RELEASED) (i : Fin 8) (eoi : Bool) (acc : Byte) :
    rxLineStep (.bitRise i) eoi acc s = rxGoto (.bitSample i) eoi acc s := waitWithin_seen hv

theorem rxLineStep_bitFall_seen (hv : s.level .CLOCK = .PULLED) (i : Fin 8) (eoi : Bool) (acc : Byte) :
    rxLineStep (.bitFall i) eoi acc s = rxGoto (RxStep.afterBit i) eoi acc s := by
  rw [rxLineStep, waitWithin_seen hv, RxStep.afterBit]
  cases nextBit i <;> rfl

/-- The unit is at a level-L receive with its own CLOCK and DATA released, and no fault is recorded. -/
structure State.ListeningLine (s : State) (d : Byte) : Prop where
  faults : s.faults = .empty
  level : s.params.byteLevel = .L
  own : s.unitOp = some (.rxb d)
  clock : s.lines.clock = .idle
  data : s.lines.data = .idle

/-- The state with the host's CLOCK and DATA, the handshake's position and the turns to come as given: what the bit cells of a
receive change. -/
def State.wired (clk dat : Level) (k : Shake) (script : List Turn) (s : State) : State :=
  { s with host := { s.host with clock := clk, data := dat }, shake := k, script := script }

/-- The turns by which a host gives bit `i` of `b` over one cell, with the unit's moves between them (log 1). -/
def bitTurns (b : Byte) (i : Fin 8) : List Turn :=
  [.hSet .DATA (bitLevel b i), .hSet .CLOCK .RELEASED, .unit, .unit, .hSet .CLOCK .PULLED, .unit]

namespace State.ListeningLine

variable {d : Byte} {clk dat : Level} {k : Shake} {rest : List Turn} {eoi : Bool} {acc : Byte}

/-- With the unit's contribution released, CLOCK is the host's (R24). -/
theorem level_clock_wired (h : s.ListeningLine d) : (s.wired clk dat k rest).level .CLOCK = clk := by
  rw [level_clock, State.wired, h.clock, LineReg.contrib_idle, wiredOr_released]

theorem level_data_wired (h : s.ListeningLine d) : (s.wired clk dat k rest).level .DATA = dat := by
  rw [level_data, State.wired, h.data, LineReg.contrib_idle, wiredOr_released]

theorem step_hostData (h : s.ListeningLine d) (v : Level) :
    step (s.wired clk dat k (.hSet .DATA v :: rest)) = .next (s.wired clk v k rest) :=
  step_hSet (l := .DATA) (v := v) (by exact h.faults) rfl

theorem step_hostClock (h : s.ListeningLine d) (v : Level) :
    step (s.wired clk dat k (.hSet .CLOCK v :: rest)) = .next (s.wired v dat k rest) :=
  step_hSet (l := .CLOCK) (v := v) (by exact h.faults) rfl

/-- In its turn the unit takes the receive's current step. -/
theorem step_receive (h : s.ListeningLine d) (p : RxStep) :
    step (s.wired clk dat (.rx p eoi acc) (.unit :: rest)) = rxLineStep p eoi acc (s.wired clk dat (.rx p eoi acc) rest) := by
  have hown : (s.wired clk dat (.rx p eoi acc) rest).unitOp = some (.rxb d) := h.own
  rw [step_unit_turn (by exact h.faults) rfl]
  exact (unitTurn_own hown).trans (exec_rxb_underWay (by exact h.level) hown rfl)

theorem step_bitRise (h : s.ListeningLine d) (i : Fin 8) :
    step (s.wired .RELEASED dat (.rx (.bitRise i) eoi acc) (.unit :: rest)) =
      .next (s.wired .RELEASED dat (.rx (.bitSample i) eoi acc) rest) :=
  (h.step_receive _).trans (rxLineStep_bitRise h.level_clock_wired i eoi acc)

theorem step_bitSample (h : s.ListeningLine d) (i : Fin 8) :
    step (s.wired clk dat (.rx (.bitSample i) eoi acc) (.unit :: rest)) =
      .next (s.wired clk dat (.rx (.bitFall i) eoi (sampleBit dat i acc)) rest) := by
  rw [h.step_receive, rxLineStep, h.level_data_wired]
  rfl

theorem step_bitFall (h : s.ListeningLine d) (i : Fin 8) :
    step (s.wired .PULLED dat (.rx (.bitFall i) eoi acc) (.unit :: rest)) =
      .next (s.wired .PULLED dat (.rx (RxStep.afterBit i) eoi acc) rest) :=
  (h.step_receive _).trans (rxLineStep_bitFall_seen h.level_clock_wired i eoi acc)

/-- One cell hands over one bit. -/
theorem run_bitCell (h : s.ListeningLine d) (b : Byte) (i : Fin 8) :
    run 6 (s.wired clk dat (.rx (.bitRise i) eoi acc) (bitTurns b i ++ rest)) =
      .next (s.wired .PULLED (bitLevel b i) (.rx (RxStep.afterBit i) eoi (assembleBit b acc i)) rest) := by
  rw [bitTurns, List.cons_append, run_next (h.step_hostData _), List.cons_append, run_next (h.step_hostClock _),
    List.cons_append, run_next (h.step_bitRise i), List.cons_append, run_next (h.step_bitSample i),
    List.cons_append, run_next (h.step_hostClock _), List.cons_append, run_next (h.step_bitFall i)]
  rfl

/-- The cells from bit `i` on, `n` more after it, hand over the rest of the byte. -/
theorem run_bitCells (n : Nat) (h : s.ListeningLine d) (b : Byte) {i : Fin 8} (hi : i.val + n = 7) :
    run (6 * (n + 1)) (s.wired clk dat (.rx (.bitRise i) eoi acc) (((List.finRange 8).drop i.val).flatMap (bitTurns b))) =
      .next (s.wired .PULLED (bitLevel b 7)
        (.rx .ack eoi (((List.finRange 8).drop i.val).foldl (assembleBit b) acc)) []) := by
  induction n generalizing i clk dat acc with
  | zero =>
    obtain rfl : i = 7 := Fin.ext hi
    exact h.run_bitCell b 7
  | succ n ih =>
    obtain ⟨j, hj⟩ : ∃ j : Fin 8, j.val = i.val + 1 := ⟨⟨i.val + 1, by omega⟩, rfl⟩
    have hcount : 6 * (n + 1 + 1) = 6 + 6 * (n + 1) := by omega
    rw [drop_finRange i, List.flatMap_cons, List.foldl_cons, hcount, run_add (h.run_bitCell b i), RxStep.afterBit_succ hj, ← hj]
    exact ih (by omega)

end State.ListeningLine

/-! ### The bit cell of a send (R156) -/

/-- With no turn waiting, a send under way takes its current step. -/
theorem step_send {b : Byte} {last : Bool} {p : TxStep} (h : s.unitAlone) (hl : s.params.byteLevel = .L)
    (hu : s.unitOp = some (.txb b last)) (hk : s.shake = .tx p) : step s = txLineStep b last p s :=
  (step_own h hu).trans (exec_txb_underWay hl hu hk)

/-- The line register that puts bit `i` of the byte on DATA. -/
def bitReg (b : Byte) (i : Fin 8) : LineReg := if b.getLsbD i.val then .idle else .pulled

theorem putBit_eq (b : Byte) (i : Fin 8) (s : State) :
    putBit b i s = { s with lines := { s.lines with data := bitReg b i } } := by
  rw [putBit, bitReg]
  split_ifs <;> rfl

theorem txLineStep_bitRelData_eq (b : Byte) (last : Bool) (i : Fin 8) (s : State) :
    txLineStep b last (.bitRelData i) s = txGoto (TxStep.afterBit i) (s.release .DATA) := by
  rw [txLineStep, TxStep.afterBit]
  cases nextBit i <;> rfl

section
variable {b : Byte} {last : Bool} {i : Fin 8} (h : s.unitAlone) (hl : s.params.byteLevel = .L) (hu : s.unitOp = some (.txb b last))
include h hl hu

theorem step_sendAt (u : UnitLines) (p : TxStep) :
    step { s with lines := u, shake := .tx p } = txLineStep b last p { s with lines := u, shake := .tx p } :=
  step_send (by exact h) (by exact hl) (by exact hu) rfl

/-- The bit is put on DATA, and CLOCK is released over it. -/
theorem run_bitOnData (hk : s.shake = .tx (.bitData i)) :
    run 3 s = .next { s with
      lines := { s.lines with clock := .idle, data := bitReg b i }, shake := .tx (.bitHold i) } := by
  have hput : step s = .next { s with lines := { s.lines with data := bitReg b i }, shake := .tx (.bitSetup i) } := by
    rw [step_send h hl hu hk, txLineStep, putBit_eq]
    rfl
  rw [run_next hput]
  refine Eq.trans (run_next (step_sendAt h hl hu _ (.bitSetup i)) 1) ?_
  exact run_next (step_sendAt h hl hu _ (.bitRelClk i)) 0

/-- The cell ends with CLOCK pulled and DATA released. -/
theorem run_bitCellEnd (hk : s.shake = .tx (.bitHold i)) :
    run 3 s = .next { s with
      lines := { s.lines with clock := .pulled, data := .idle }, shake := .tx (TxStep.afterBit i) } := by
  refine Eq.trans (run_next (step_send h hl hu hk) 2) ?_
  refine Eq.trans (run_next (step_sendAt h hl hu _ (.bitPullClk i)) 1) ?_
  exact run_next ((step_sendAt h hl hu _ (.bitRelData i)).trans (txLineStep_bitRelData_eq b last i _)) 0

theorem run_sendCell (hk : s.shake = .tx (.bitData i)) :
    run 6 s = .next { s with
      lines := { s.lines with clock := .pulled, data := .idle }, shake := .tx (TxStep.afterBit i) } := by
  rw [run_add (run_bitOnData h hl hu hk) 3]
  exact run_bitCellEnd (by exact h) (by exact hl) (by exact hu) rfl

end

end Sys2Proof.Machine

open Sys2Proof Sys2Proof.Machine

/-- Settles O60: a sample takes one bit, so eight take the byte; the cells of a receive follow one another by induction. -/
theorem lineLevelBitsAssembleTheByte : Obligations.LineLevelBitsAssembleTheByte := by
  refine ⟨foldl_assembleBit_finRange, fun s d i eoi acc hl hu => ⟨fun hk hv => ?rise, fun hk => ?sample, fun hk hv => ?fall⟩,
    fun s d eoi b hf hl hu hk hclk hdata hs => ?receive, fun s b last i x h hl _ hu hk hx => ?send⟩
  case rise => exact (exec_rxb_underWay hl hu hk).trans (rxLineStep_bitRise hv i eoi acc)
  case sample =>
    refine ⟨_, exec_rxb_underWay hl hu hk, fun k hne => ?_, fun hacc => ?_⟩
    · simp only [getLsbD_sampleBit, hne.symm, decide_false, Bool.and_false, Bool.or_false]
    · simp only [getLsbD_sampleBit, hacc, decide_true, Bool.and_true, Bool.false_or, decide_eq_true_eq]
  case fall =>
    rw [exec_rxb_underWay hl hu hk, rxLineStep_bitFall_seen hv]
    exact ⟨fun j hj => by rw [RxStep.afterBit_succ hj]; rfl, fun hi => by rw [RxStep.afterBit_last hi]; rfl⟩
  case receive =>
    have h : s.ListeningLine d := ⟨hf, hl, hu, hclk, hdata⟩
    have hstart : s = s.wired s.host.clock s.host.data (.rx (.bitRise 0) eoi 0#8) ((List.finRange 8).flatMap (bitTurns b)) := by
      rw [State.wired, ← hk, ← (show s.script = (List.finRange 8).flatMap (bitTurns b) from hs)]
    have hrun := h.run_bitCells (clk := s.host.clock) (dat := s.host.data) (eoi := eoi) (acc := 0#8) 7 b (i := 0) rfl
    rw [Fin.val_zero, List.drop_zero, ← hstart, foldl_assembleBit_finRange] at hrun
    exact hrun
  case send =>
    subst hx
    refine ⟨?_, run_bitOnData h hl hu hk, ?_, ?_⟩
    · rw [exec_txb_underWay hl hu hk, txLineStep, putBit_eq]
      rfl
    · intro j hj
      rw [run_sendCell h hl hu hk, TxStep.afterBit_succ hj]
      rfl
    · intro hi
      rw [run_sendCell h hl hu hk, TxStep.afterBit_last hi]
      rfl

end

section
/-! The cycle of `service` up to dispatch: its entry (O19, O20), the reset check (O21), the primary code (O23), the gate (O24), dispatch
(O26); and the exit that releases every line (O32). -/

namespace Sys2Proof.Machine

variable {s : State}

/-! ### The issue and the entry (R170, R171) -/

theorem exec_service_own (hu : s.unitOp = some .service) : exec .service s = serviceStep s := operate_own hu _ _ _

/-- SERVICE is admitted in every phase, and releases CLOCK in the step of its issue (log 6). -/
theorem exec_service_issued (hc : s.ctl = .READY) (hb : s.busy = false) :
    exec .service s = .next { s.release .CLOCK with ctl := .SV_ENTRY_DATA, busy := true } :=
  operate_admitted hc hb rfl rfl rfl

theorem step_entryData (h : s.unitAlone) (hc : s.ctl = .SV_ENTRY_DATA) :
    step s = .next { s.pull .DATA with ctl := .SV_INIT } := by
  rw [step_own h (i := .pull .DATA) (by rw [State.unitOp, hc]), exec_pull_own (by rw [State.unitOp, hc]) rfl, afterLine,
    pull_ctl, hc]
  rfl

theorem step_serviceInit (h : s.unitAlone) (hc : s.ctl = .SV_INIT) : step s = serviceInit s := by
  have hu : s.unitOp = some .service := by rw [State.unitOp, hc]
  rw [step_own h hu, exec_service_own hu, serviceStep, hc]

/-! ### The reset check (R173) -/

theorem serviceResetCheck_pulled (hp : s.params.serviceChecksReset = true) (hr : s.host.reset = .PULLED) :
    serviceResetCheck s = exitService .RESET s := if_pos ⟨hp, hr⟩

theorem serviceResetCheck_passed (h : s.params.serviceChecksReset = false ∨ s.host.reset = .RELEASED) :
    serviceResetCheck s = goto .SV_PRIMARY s := by
  refine if_neg fun ⟨hp, hr⟩ => ?_
  rw [level_reset] at hr
  simp [hp, hr] at h

/-! ### The primary code (R175, R176) -/

theorem exec_code_primary {i : Instr} {b b' : Byte} (hc : s.ctl = .SV_DECODE1 b') (h : encode i = .atnByte b) :
    exec i s = atnPrimary i.cmd b s := by
  rw [exec_code h, atnCode, hc]

/-- GLOBAL, LISTEN and TALK write their low nibble as the device. -/
theorem atnPrimary_device {cmd : Cmd} (h : cmdTakesDevice cmd = true) (c x : BitVec 4) :
    atnPrimary cmd (c ++ x) s =
      .next { s with data := { s.data with command := some cmd, device := some (x.setWidth 5) }, ctl := .SV_GATE } := by
  cases cmd with
  | GLOBAL | LISTEN | TALK => simp [atnPrimary, DataRec.primary, cmdTakesDevice, cmdTakesChannel, goto]
  | _ => cases h

/-- SECOND, CLOSE and OPEN write their low nibble as the channel. -/
theorem atnPrimary_channel {cmd : Cmd} (h : cmdTakesChannel cmd = true) (c x : BitVec 4) :
    atnPrimary cmd (c ++ x) s =
      .next { s with data := { s.data with command := some cmd, channel := some x }, ctl := .SV_GATE } := by
  cases cmd with
  | SECOND | CLOSE | OPEN => simp [atnPrimary, DataRec.primary, cmdTakesDevice, cmdTakesChannel, goto]
  | _ => cases h

/-- A code that the table leaves unnamed writes the command alone (R95). -/
theorem atnPrimary_none (b : Byte) (s : State) :
    atnPrimary .NONE b s = .next { s with data := { s.data with command := some .NONE }, ctl := .SV_GATE } := rfl

/-- UNLISTEN and UNTALK write the command alone and end the cycle with IDLE. -/
theorem atnPrimary_ends {cmd : Cmd} (h : cmd = .UNLISTEN ∨ cmd = .UNTALK) (b : Byte) :
    atnPrimary cmd b s = .next { s with data := { s.data with command := some cmd }, ctl := .RL_CLK (.exit .IDLE) } := by
  rcases h with rfl | rfl <;> rfl

/-- Each of the six unnamed codes has the command NONE (log 18). -/
theorem exec_noneCode_primary {i : Instr} {b : Byte} (hc : s.ctl = .SV_DECODE1 b)
    (h : (∃ x, i = .atnNone1 x ∨ i = .atnNone3 x ∨ i = .atnNone5 x ∨ i = .atnNone7 x) ∨ (∃ x, i = .atnNone8 x) ∨
      ∃ x, i = .atnNoneC x) :
    ∃ b', exec i s = atnPrimary .NONE b' s := by
  rcases h with ⟨x, rfl | rfl | rfl | rfl⟩ | ⟨x, rfl⟩ | ⟨x, rfl⟩ <;> exact ⟨_, exec_code_primary hc rfl⟩

/-! ### The gate (R177) -/

theorem gateDevice_enabled {d : BitVec 5} (hd : s.data.device = some d) (he : s.enabled.getLsbD d.toNat = true) (p : Prim) :
    gateDevice p s = goto .SV_SECONDARY { s with prim := some p } := by
  rw [gateDevice, hd, readField_some, if_pos (by exact he)]

theorem gateDevice_disabled {d : BitVec 5} (hd : s.data.device = some d) (he : s.enabled.getLsbD d.toNat = false) (p : Prim) :
    gateDevice p s = exitService .IDLE s := by
  rw [gateDevice, hd, readField_some, State.isEnabled, he, if_neg Bool.false_ne_true]

theorem serviceGate_listen (hcmd : s.data.command = some .LISTEN) : serviceGate s = gateDevice .LISTEN s := by
  rw [serviceGate, hcmd, readField_some]

theorem serviceGate_talk (hcmd : s.data.command = some .TALK) : serviceGate s = gateDevice .TALK s := by
  rw [serviceGate, hcmd, readField_some]

theorem serviceGate_other {c : Cmd} (hcmd : s.data.command = some c) (hlisten : c ≠ .LISTEN) (htalk : c ≠ .TALK) :
    serviceGate s = exitService .IDLE s := by
  rw [serviceGate, hcmd, readField_some]
  cases c with
  | LISTEN => exact absurd rfl hlisten
  | TALK => exact absurd rfl htalk
  | GLOBAL | UNLISTEN | UNTALK | SECOND | CLOSE | OPEN | NONE => rfl

/-! ### Dispatch (R180) -/

theorem serviceDispatch_talk (hp : s.prim = some .TALK) : serviceDispatch s = goto .SV_TA s := by
  rw [serviceDispatch, hp, readField_some]

theorem serviceDispatch_listen (hp : s.prim = some .LISTEN) : serviceDispatch s = goto .SV_LISTEN s := by
  rw [serviceDispatch, hp, readField_some]

end Sys2Proof.Machine

open Sys2Proof Sys2Proof.Machine

/-- Settles O20: the issue, the pull of DATA and SV_INIT, one after another; the unit's own pull decides the level of DATA. -/
theorem serviceEntryTakesListenerPosture : Obligations.ServiceEntryTakesListenerPosture := by
  intro s str h hc hb hp
  have hissue : step s = .next { s.release .CLOCK with ctl := .SV_ENTRY_DATA, busy := true } := by
    rw [step_unitAlone h, unitTurn_line hc hp (i := .service) (by rfl), exec_service_issued hc hb]
  have hposture : run 2 s = .next { s.listenerPosture with ctl := .SV_INIT, busy := true } :=
    (run_next hissue 1).trans (run_next (step_entryData (by exact h) rfl) 0)
  refine ⟨run_next hissue 0, hposture, ?init, fun t ht => ?level⟩
  case init => exact (run_add hposture 1).trans (run_next (step_serviceInit (by exact h) rfl) 0)
  case level =>
    obtain rfl := Host.Outcome.next.inj (hposture.symm.trans ht)
    exact wiredOr_pulled s.host.data

/-- Settles O32: the four release steps and the bookkeeping. -/
theorem silentExitReleasesEveryLine : Obligations.SilentExitReleasesEveryLine := fun _ _ h hc => run_silentExit h hc

/-- Settles O19: the issue is admitted whatever the phase, and its first step is SV_ENTRY_CLK. -/
theorem serviceStartsByReleasingClock : Obligations.ServiceStartsByReleasingClock := fun _ hc hb => exec_service_issued hc hb

/-- Settles O21: the check passes unless the parameter is true and RESET is pulled. -/
theorem resetCheckSamplesResetOnce : Obligations.ResetCheckSamplesResetOnce := by
  intro s hc
  have hstep : exec .service s = serviceResetCheck s := by
    rw [exec_service_own (by rw [State.unitOp, hc]), serviceStep, hc]
  exact ⟨fun hp hr => hstep.trans (serviceResetCheck_pulled hp hr), fun h => hstep.trans (serviceResetCheck_passed h)⟩

/-- Settles O23: each code runs `atnPrimary`, which writes its argument by the kind of its command. -/
theorem primaryCodeWritesItsFields : Obligations.PrimaryCodeWritesItsFields := by
  intro s b hc
  have hcode {i : Instr} {c : Byte} (h : encode i = .atnByte c) : exec i s = atnPrimary i.cmd c s := exec_code_primary hc h
  refine ⟨(hcode rfl).trans (atnPrimary_ends (.inl rfl) _), (hcode rfl).trans (atnPrimary_ends (.inr rfl) _),
    fun d => (hcode rfl).trans (atnPrimary_device rfl 0x0#4 d), fun d => (hcode rfl).trans (atnPrimary_device rfl 0x2#4 d),
    fun d => (hcode rfl).trans (atnPrimary_device rfl 0x4#4 d), fun c => (hcode rfl).trans (atnPrimary_channel rfl 0x6#4 c),
    fun c => (hcode rfl).trans (atnPrimary_channel rfl 0xE#4 c), fun c => (hcode rfl).trans (atnPrimary_channel rfl 0xF#4 c),
    fun i _ hi => ?none⟩
  case none =>
    obtain ⟨b', he⟩ := exec_noneCode_primary hc hi
    exact he.trans (atnPrimary_none b' s)

/-- Settles O24: LISTEN and TALK are decided by the device's bit, and any other command ends the cycle. -/
theorem gatePassesEnabledListenAndTalk : Obligations.GatePassesEnabledListenAndTalk := by
  intro s hc
  have hstep : exec .service s = serviceGate s := by rw [exec_service_own (by rw [State.unitOp, hc]), serviceStep, hc]
  rw [hstep]
  refine ⟨fun d hcmd hd he => ?listen, fun d hcmd hd he => ?talk, fun d hcmd hd he => ?disabled,
    fun c hcmd hlisten htalk => serviceGate_other hcmd hlisten htalk⟩
  case listen => exact (serviceGate_listen hcmd).trans (gateDevice_enabled hd he .LISTEN)
  case talk => exact (serviceGate_talk hcmd).trans (gateDevice_enabled hd he .TALK)
  case disabled =>
    rcases hcmd with hcmd | hcmd
    · exact (serviceGate_listen hcmd).trans (gateDevice_disabled hd he .LISTEN)
    · exact (serviceGate_talk hcmd).trans (gateDevice_disabled hd he .TALK)

/-- Settles O26: dispatch reads the latched primary command alone. -/
theorem dispatchFollowsThePrimary : Obligations.DispatchFollowsThePrimary := by
  intro s hc
  have hstep : exec .service s = serviceDispatch s := by rw [exec_service_own (by rw [State.unitOp, hc]), serviceStep, hc]
  exact ⟨fun hp => hstep.trans (serviceDispatch_talk hp), fun hp => hstep.trans (serviceDispatch_listen hp)⟩

end

section
/-! The listen sub-state-machine of `service` (R200): its arms (O27), the ATN sample of an iteration (O28), the end of the command
string (O31), and a whole string, by induction on its bytes (O33). -/

namespace Sys2Proof.Machine

variable {s : State}

/-! ### The arms (R201, R202, R209, R210) -/

theorem serviceListen_second {ch : BitVec 4} (hcmd : s.data.command = some .SECOND) (hch : s.data.channel = some ch) :
    serviceListen s = if ch = 15#4 then goto .SV_ACC_ATN s else exitService .LISTEN s := by
  rw [serviceListen, hcmd, readField_some, hch, readField_some]

theorem serviceListen_open (hcmd : s.data.command = some .OPEN) : serviceListen s = goto .SV_ACC_ATN s := by
  rw [serviceListen, hcmd, readField_some]

theorem serviceListen_close (hcmd : s.data.command = some .CLOSE) : serviceListen s = exitService .COMMAND s := by
  rw [serviceListen, hcmd, readField_some]

theorem serviceListen_other {c : Cmd} (hcmd : s.data.command = some c) (hsecond : c ≠ .SECOND) (hopen : c ≠ .OPEN)
    (hclose : c ≠ .CLOSE) : serviceListen s = exitByContent s := by
  rw [serviceListen, hcmd, readField_some]
  cases c with
  | SECOND => exact absurd rfl hsecond
  | OPEN => exact absurd rfl hopen
  | CLOSE => exact absurd rfl hclose
  | LISTEN | TALK | GLOBAL | UNLISTEN | UNTALK | NONE => rfl

/-! ### The end of the string (R208) -/

theorem exitByContent_empty (hstr : s.data.content = some []) : exitByContent s = exitService .IDLE s := by
  rw [exitByContent, hstr, readField_some]
  rfl

theorem exitByContent_nonempty {str : List Byte} (hstr : s.data.content = some str) (hne : str ≠ []) :
    exitByContent s = exitService .COMMAND s := by
  rw [exitByContent, hstr, readField_some, if_pos (List.length_pos_iff.mpr hne)]

theorem trimPad_pad (front : List Byte) : trimPad (front ++ [0xA0#8]) = front := by
  rw [trimPad, if_pos List.getLast?_concat, List.dropLast_concat]

theorem trimPad_eq_self {str : List Byte} (h : str.getLast? ≠ some 0xA0#8) : trimPad str = str := if_neg h

/-- SV_ACC_END removes the pad and returns by what is left. -/
theorem exec_stringEnd {str : List Byte} (hc : s.ctl = .SV_ACC_END) (hstr : s.data.content = some str) :
    exec .service s = exitByContent { s with data := { s.data with content := some (trimPad str) } } := by
  have hstep : exec .service s = accumulateEnd s := by rw [exec_service_own (by rw [State.unitOp, hc]), serviceStep, hc]
  rw [hstep, accumulateEnd, hstr, readField_some]

/-- A string that is not empty once trimmed is returned with COMMAND. -/
theorem exec_stringEnd_command {str text : List Byte} (hc : s.ctl = .SV_ACC_END) (hstr : s.data.content = some str)
    (htrim : trimPad str = text) (hne : text ≠ []) :
    exec .service s = .next (State.dataExit .COMMAND { s with data := { s.data with content := some text } }) := by
  rw [exec_stringEnd hc hstr, htrim]
  exact exitByContent_nonempty rfl hne

theorem exec_stringEnd_idle {str : List Byte} (hc : s.ctl = .SV_ACC_END) (hstr : s.data.content = some str)
    (htrim : trimPad str = []) :
    exec .service s = .next { s with data := { s.data with content := some [] }, ctl := .RL_CLK (.exit .IDLE) } := by
  rw [exec_stringEnd hc hstr, htrim]
  exact exitByContent_empty rfl

/-! ### The ATN sample (R203) -/

theorem exec_service_sample (hc : s.ctl = .SV_ACC_ATN) : exec .service s = accumulateAtn s := by
  rw [exec_service_own (by rw [State.unitOp, hc]), serviceStep, hc]

theorem accumulateAtn_pulled (h : s.level .ATN = .PULLED) : accumulateAtn s = exitService .IDLE s := if_pos h

theorem accumulateAtn_released (h : s.level .ATN = .RELEASED) : accumulateAtn s = goto .SV_ACC_RX s :=
  if_neg (level_ne_pulled.mpr h)

/-! ### One byte of the string (R205 to R207) -/

/-- A step of the procedure while a byte of the host waits in the script (log 1). -/
theorem step_own_hTalk {i : Instr} {a : RxAnswer} {rest : List Turn} (hf : s.faults = .empty) (hu : s.unitOp = some i)
    (hs : s.script = .hTalk a :: rest) : step s = exec i s := by
  rw [step_eq_unitTurn hf (mover_unit (.inr (.inl ⟨a, rest, hs⟩))), unitTurn_own hu]

/-- The unit is at the ATN sample of an accumulation at level T, with ATN released, ERROR clear, no fault recorded, and `got` in
`D.content`. -/
structure State.Accumulating (s : State) (d : BitVec 5) (got : List Byte) : Prop where
  ctl : s.ctl = .SV_ACC_ATN
  faults : s.faults = .empty
  error : s.error = false
  level : s.params.byteLevel = .T
  atn : s.level .ATN = .RELEASED
  device : s.data.device = some d
  content : s.data.content = some got

/-- The state after a byte without EOI has been received, with `str` in `D.content`, at the next step `c`. -/
def State.heard (str : List Byte) (c : Ctl) (rest : List Turn) (s : State) : State :=
  { s.byteReceived false with data := { s.data with content := some str }, ctl := c, script := rest }

/-- Receiving a second byte changes the string, the control state and the script alone. -/
theorem heard_heard (str str' : List Byte) (c c' : Ctl) (rest rest' : List Turn) (s : State) :
    (s.heard str c rest).heard str' c' rest' = s.heard str' c' rest' := by
  have hflags : s.flags &&& 0xFD#8 &&& 0xFD#8 = s.flags &&& 0xFD#8 := by rw [BitVec.and_assoc, BitVec.and_self]
  simp only [State.heard, State.byteReceived, flagsWriteEoi, Bool.false_eq_true, if_false, hflags]

/-- The string as it is kept, without its carriage returns (R207). -/
def withoutReturns (str : List Byte) : List Byte := str.filter (· != 0x0D#8)

theorem withoutReturns_cons (c : Byte) (str : List Byte) :
    withoutReturns (c :: str) = withoutReturns [c] ++ withoutReturns str := List.filter_append [c] str

/-- The host's turns that send a string without EOI, and the terminator after it (R133, R205). -/
def stringTurns (str : List Byte) (rest : List Turn) : List Turn :=
  str.map (fun c => Turn.hTalk (.ok c false)) ++ .hTalk (.ok 0x3F#8 false) :: rest

namespace State.Accumulating

variable {d : BitVec 5} {got : List Byte} {c : Byte} {rest : List Turn}

/-- An iteration samples ATN and then receives a byte. -/
theorem run_iteration {t : State} (h : s.Accumulating d got) (hs : s.script = .hTalk (.ok c false) :: rest)
    (hrx : exec (.rxb (d.setWidth 8)) { s with ctl := .SV_ACC_RX } = .next t) : run 2 s = .next t := by
  have hsample : step s = .next { s with ctl := .SV_ACC_RX } := by
    rw [step_own_hTalk h.faults (i := .service) (by rw [State.unitOp, h.ctl]) hs, exec_service_sample h.ctl,
      accumulateAtn_released h.atn]
    rfl
  have hop : State.unitOp { s with ctl := .SV_ACC_RX } = some (.rxb (d.setWidth 8)) := by
    simp only [State.unitOp, State.rxbOfDevice, h.device, Option.map_some]
  rw [run_next hsample]
  exact run_next ((step_own_hTalk (by exact h.faults) hop (by exact hs)).trans hrx) 0

/-- The terminator ends the string as it is. -/
theorem run_terminator (h : s.Accumulating d got) (hs : s.script = .hTalk (.ok 0x3F#8 false) :: rest) :
    run 2 s = .next (s.heard got .SV_ACC_END rest) := by
  obtain ⟨hend, _⟩ := stringByteEndsSkipsOverflowsOrAppends { s with ctl := .SV_ACC_RX } d got _ false rest _ _
    rfl h.device h.content h.level h.error hs rfl rfl
  rw [h.run_iteration hs (hend rfl), State.heard, ← h.content]
  rfl

/-- A byte that fits is kept, unless it is a carriage return. -/
theorem run_byte (h : s.Accumulating d got) (hs : s.script = .hTalk (.ok c false) :: rest) (hc : c ≠ 0x3F#8)
    (hfit : (got ++ withoutReturns [c]).length ≤ s.params.cmdMax) :
    run 2 s = .next (s.heard (got ++ withoutReturns [c]) .SV_ACC_ATN rest) := by
  obtain ⟨_, hreturn, _, happend⟩ := stringByteEndsSkipsOverflowsOrAppends { s with ctl := .SV_ACC_RX } d got c false rest _ _
    rfl h.device h.content h.level h.error hs rfl rfl
  by_cases hcr : c = 0x0D#8
  · have hkept : got ++ withoutReturns [c] = got := by rw [hcr]; exact List.append_nil got
    rw [h.run_iteration hs (hreturn hcr), hkept, State.heard, ← h.content]
    rfl
  · have hkept : withoutReturns [c] = [c] := by simp [withoutReturns, hcr]
    rw [hkept] at hfit ⊢
    have hlen : got.length ≠ s.params.cmdMax := by
      rw [List.length_append, List.length_singleton] at hfit
      omega
    exact h.run_iteration hs (happend hc hcr hlen)

/-- The next iteration starts as this one did. -/
theorem next (h : s.Accumulating d got) (got' : List Byte) (rest : List Turn) :
    (s.heard got' .SV_ACC_ATN rest).Accumulating d got' :=
  ⟨rfl, h.faults, (flagsWriteEoi_bit0 false s.flags).trans h.error, h.level, h.atn, h.device, rfl⟩

/-- A string that fits, byte by byte, and its terminator. -/
theorem run_string {str : List Byte} (h : s.Accumulating d got) (hs : s.script = stringTurns str rest) (hend : 0x3F#8 ∉ str)
    (hfit : (got ++ withoutReturns str).length ≤ s.params.cmdMax) :
    run (2 * str.length + 2) s = .next (s.heard (got ++ withoutReturns str) .SV_ACC_END rest) := by
  induction str generalizing s got with
  | nil =>
    rw [withoutReturns, List.filter_nil, List.append_nil]
    exact h.run_terminator hs
  | cons c str ih =>
    obtain ⟨hc, hend⟩ := not_or.mp (mt List.mem_cons.mpr hend)
    have hkept : got ++ withoutReturns (c :: str) = got ++ withoutReturns [c] ++ withoutReturns str := by
      rw [withoutReturns_cons, List.append_assoc]
    have hsteps : 2 * (c :: str).length + 2 = 2 + (2 * str.length + 2) := by
      rw [List.length_cons]
      omega
    rw [hkept] at hfit ⊢
    have hbyte : run 2 s = .next (s.heard (got ++ withoutReturns [c]) .SV_ACC_ATN (stringTurns str rest)) :=
      h.run_byte hs (Ne.symm hc) (le_trans (by simp) hfit)
    rw [hsteps, run_add hbyte, ih (h.next _ (stringTurns str rest)) rfl hend hfit, heard_heard]

end State.Accumulating

end Sys2Proof.Machine

open Sys2Proof Sys2Proof.Machine

/-- Settles O28: the sample decides between the exit and the receive. -/
theorem accumulationSamplesAtnFirst : Obligations.AccumulationSamplesAtnFirst := fun _ hc =>
  ⟨fun h => (exec_service_sample hc).trans (accumulateAtn_pulled h),
    fun h => (exec_service_sample hc).trans (accumulateAtn_released h)⟩

/-- Settles O27: SV_LISTEN goes by the secondary command, and for SECOND by the channel. -/
theorem listenArmsFollowTheSecondary : Obligations.ListenArmsFollowTheSecondary := by
  intro s hc
  have hstep : exec .service s = serviceListen s := by rw [exec_service_own (by rw [State.unitOp, hc]), serviceStep, hc]
  rw [hstep]
  refine ⟨fun ch hcmd hch hne => (serviceListen_second hcmd hch).trans (if_neg hne),
    fun hcmd hch => (serviceListen_second hcmd hch).trans (if_pos rfl), serviceListen_open, serviceListen_close,
    fun c hcmd hsecond hopen hclose hstr => ?other⟩
  case other => exact (serviceListen_other hcmd hsecond hopen hclose).trans (exitByContent_empty hstr)

/-- Settles O31: the string is trimmed, and what is left decides between COMMAND and IDLE. -/
theorem endOfStringTrimsOnePad : Obligations.EndOfStringTrimsOnePad := by
  intro s str hc hstr
  refine ⟨fun front hpad hne => ?padded, fun hempty => ?empty, fun front c hlast hne => ?unpadded⟩
  case padded => exact exec_stringEnd_command hc hstr (hpad ▸ trimPad_pad front) hne
  case empty =>
    have htrim : trimPad str = [] := by rcases hempty with rfl | rfl <;> rfl
    exact exec_stringEnd_idle hc hstr htrim
  case unpadded =>
    have htrim : trimPad str = str := trimPad_eq_self (by simpa [hlast] using hne)
    rw [exec_stringEnd_command hc hstr htrim (by simp [hlast]), ← hstr]
    rfl

/-- Settles O33: the bytes are kept by induction, and the end of the string removes the pad. -/
theorem commandStringIsCaptured : Obligations.CommandStringIsCaptured := by
  intro s d str text hc hf he hl hatn hd hstr hend hfit hs htext hne
  have htrim : trimPad (withoutReturns str) = text := by
    rcases htext with hpad | ⟨hplain, hlast⟩
    · rw [withoutReturns, hpad, trimPad_pad]
    · rw [withoutReturns, hplain, trimPad_eq_self hlast]
  have hheard : run (2 * str.length + 2) s = .next (s.heard (withoutReturns str) .SV_ACC_END []) :=
    State.Accumulating.run_string (got := []) ⟨hc, hf, he, hl, hatn, hd, hstr⟩ hs hend hfit
  have hreturn : step (s.heard (withoutReturns str) .SV_ACC_END []) =
      .next (State.dataExit .COMMAND (s.heard text .SV_ACC_END [])) :=
    Eq.trans (step_own ⟨rfl, by exact hf⟩ (i := .service) rfl) (exec_stringEnd_command rfl (by exact rfl) htrim hne)
  exact (run_add hheard 1).trans (run_next hreturn 0)

end

section
/-! Turnaround (R220, O34) and undo-turnaround (R225, O35): the steps with the unit alone, and the waits for CLOCK. -/

namespace Sys2Proof.Machine

variable {s : State}

/-! ### The wait for CLOCK (R62) -/

theorem waitUntil_seen {l : Line} {v : Level} {seen late : State → Out} (hl : s.level l = v) :
    waitUntil l v seen late s = seen s := if_pos hl

/-- With the unit's CLOCK register idle, a host that releases CLOCK leaves it RELEASED (R24, R67). -/
theorem level_clock_hostReleases (hclk : s.lines.clock = .idle) (rest : List Turn) :
    State.level { s.hostSet .CLOCK .RELEASED with script := rest } .CLOCK = .RELEASED := by
  simp only [level_clock, hostSet_lines, hclk, LineReg.contrib_idle, wiredOr_released]
  rfl

/-! ### Turnaround (R220, R222, R223) -/

theorem unitOp_turnaroundWait (hc : s.ctl = .SV_TA ∨ s.ctl = .TA_WAIT) : s.unitOp = some .turnaround := by
  rcases hc with hc | hc <;> rw [State.unitOp, hc]

/-- TURNAROUND at its call or at its wait is the wait (log 15). -/
theorem exec_turnaroundWait (hc : s.ctl = .SV_TA ∨ s.ctl = .TA_WAIT) :
    exec .turnaround s =
      waitUntil .CLOCK .RELEASED (goto .TA_REL_DATA) (exitService .ERROR) { s with ctl := .TA_WAIT } := by
  rw [← unitTurn_own (unitOp_turnaroundWait hc), unitTurn_turnaroundWait hc]

theorem exec_turnaround_seen (hc : s.ctl = .SV_TA ∨ s.ctl = .TA_WAIT) (hl : s.level .CLOCK = .RELEASED) :
    exec .turnaround s = .next { s with ctl := .TA_REL_DATA } :=
  (exec_turnaroundWait hc).trans (waitUntil_seen (by exact hl))

theorem exec_turnaround_hold (hc : s.ctl = .SV_TA ∨ s.ctl = .TA_WAIT) (hs : s.script = []) (hl : s.level .CLOCK = .PULLED) :
    exec .turnaround s = .next { s with ctl := .TA_WAIT } :=
  (exec_turnaroundWait hc).trans (waitUntil_hold (level_ne_released.mpr hl) (.inr hs))

/-- DATA is released in the second step, before CLOCK is pulled. -/
theorem run_turnaround_toFirstDelay (h : s.unitAlone) (hc : s.ctl = .SV_TA ∨ s.ctl = .TA_WAIT)
    (hl : s.level .CLOCK = .RELEASED) :
    run 2 s = .next { s with lines := { s.lines with data := .idle }, ctl := .TA_D1 } := by
  have hseen : step s = .next { s with ctl := .TA_REL_DATA } :=
    (step_own h (unitOp_turnaroundWait hc)).trans (exec_turnaround_seen hc hl)
  rw [run_next hseen]
  exact run_next ((step_rel (by exact h) rfl rfl).trans rfl) 0

/-- The three steps after it pull CLOCK between the two delays, and return with TALK. -/
theorem run_turnaround (h : s.unitAlone) (hc : s.ctl = .SV_TA ∨ s.ctl = .TA_WAIT) (hl : s.level .CLOCK = .RELEASED) :
    run 5 s = .next (State.dataExit .TALK { s with lines := { s.lines with clock := .pulled, data := .idle } }) := by
  rw [run_add (run_turnaround_toFirstDelay h hc hl) 3]
  refine Eq.trans (run_next (step_own (by exact h) (i := .turnaround) rfl) 2) ?_
  refine Eq.trans (run_next (step_own (by exact h) (i := .pull .CLOCK) rfl) 1) ?_
  exact run_next (step_own (by exact h) (i := .turnaround) rfl) 0

/-! ### Undo-turnaround (R225, R227, R234) -/

theorem exec_undoTurnaround_call (hc : s.ctl = .UT_PULL_DATA) :
    exec .undoTurnaround s = .next { s.pull .DATA with ctl := .UT_D1 } := by
  have hown : exec .undoTurnaround s = undoTurnaroundStep s := operate_own (by rw [State.unitOp, hc]) _ _ _
  rw [hown, undoTurnaroundStep, hc]
  rfl

theorem exec_undoTurnaround_wait (hc : s.ctl = .UT_WAIT) :
    exec .undoTurnaround s = waitUntil .CLOCK .RELEASED (undoReturns true) (undoReturns false) s := by
  rw [← unitTurn_own (by rw [State.unitOp, hc]), unitTurn_undoWait hc]

theorem exec_undoTurnaround_seen (hc : s.ctl = .UT_WAIT) (hl : s.level .CLOCK = .RELEASED) :
    exec .undoTurnaround s = undoReturns true s :=
  (exec_undoTurnaround_wait hc).trans (waitUntil_seen hl)

theorem exec_undoTurnaround_hold (hc : s.ctl = .UT_WAIT) (hs : s.script = []) (hl : s.level .CLOCK = .PULLED) :
    exec .undoTurnaround s = .next s :=
  (exec_undoTurnaround_wait hc).trans (waitUntil_hold (level_ne_released.mpr hl) (.inr hs))

end Sys2Proof.Machine

open Sys2Proof Sys2Proof.Machine

/-- Settles O34: from the call and from the wait the step is the wait's, and the host's release of CLOCK leads to the same five
steps of the unit alone. -/
theorem turnaroundEndsInTalkerPosture : Obligations.TurnaroundEndsInTalkerPosture := by
  intro s hc
  refine ⟨exec_turnaround_seen hc, fun h hl => ⟨run_turnaround_toFirstDelay h hc hl, run_turnaround h hc hl⟩,
    exec_turnaround_hold hc, fun hf hs hclk => ?hostReleases⟩
  case hostReleases =>
    rw [run_next (step_hSet hf hs)]
    exact run_turnaround ⟨rfl, by exact hf⟩ (by exact hc) (level_clock_hostReleases hclk [])

/-- Settles O35: the five steps are `sendEOI`'s undo-turnaround (O40), and the host's release of CLOCK ends the wait. -/
theorem undoTurnaroundEndsInListenerPosture : Obligations.UndoTurnaroundEndsInListenerPosture := by
  intro s
  refine ⟨fun hc => ⟨exec_undoTurnaround_call hc, fun h hclk => run_undoTurnaround h hc hclk⟩,
    fun hc => ⟨exec_undoTurnaround_seen hc, exec_undoTurnaround_hold hc, fun hf hs hclk => ?hostReleases⟩⟩
  case hostReleases =>
    rw [run_next (step_hSet hf hs)]
    have hu : State.unitOp { s.hostSet .CLOCK .RELEASED with script := [] } = some .undoTurnaround := by
      simp only [State.unitOp, hostSet_ctl, hc]
    have hreturn := exec_undoTurnaround_seen (by exact hc) (level_clock_hostReleases hclk [])
    exact run_next ((step_own ⟨rfl, by exact hf⟩ hu).trans hreturn) 0

end

section
/-! `sendFNF` (R237, O41): the issue releases DATA, and the two steps after it release CLOCK and delay. -/

namespace Sys2Proof.Machine

variable {s : State}

/-- SENDFNF has no sticky-error check, and releases DATA in the step of its issue (log 6). -/
theorem exec_sendfnf_issued (hc : s.ctl = .READY) (hb : s.busy = false) (hp : s.phase = .TALK) :
    exec .sendfnf s = .next { s.release .DATA with ctl := .FNF_REL_CLK, busy := true } :=
  operate_admitted hc hb (decide_eq_true hp) rfl rfl

theorem step_fnfReleaseClock (h : s.unitAlone) (hc : s.ctl = .FNF_REL_CLK) :
    step s = .next { s.release .CLOCK with ctl := .FNF_DELAY } := by
  rw [step_rel h (by rw [State.unitOp, hc]) rfl, afterLine, release_ctl, hc]
  rfl

theorem step_fnfDelay (h : s.unitAlone) (hc : s.ctl = .FNF_DELAY) :
    step s = .next (State.ret (.bool true) { s with phase := .TALK_DONE }) := by
  have hu : s.unitOp = some .sendfnf := by rw [State.unitOp, hc]
  have hown : exec .sendfnf s = sendFnfStep s := operate_own hu _ _ _
  rw [step_own h hu, hown, sendFnfStep, hc]

end Sys2Proof.Machine

open Sys2Proof Sys2Proof.Machine

/-- Settles O41: the issue, the release of CLOCK and the delay are the three steps, and the return leads back to READY. -/
theorem sendFnfReleasesDataAndClock : Obligations.SendFnfReleasesDataAndClock := by
  intro s hc hb hp
  refine ⟨exec_sendfnf_issued hc hb hp, fun w str h hline hd => ?threeSteps⟩
  case threeSteps =>
    have hissue : step s = .next { s.release .DATA with ctl := .FNF_REL_CLK, busy := true } := by
      rw [step_unitAlone h, unitTurn_line hc hline hd, exec_sendfnf_issued hc hb hp]
    rw [run_next hissue, run_next (step_fnfReleaseClock (by exact h) rfl), run_next (step_fnfDelay (by exact h) rfl), run_zero]
    simp only [State.ret, State.finish, hc, hb]
    rfl

end

section
/-! `releaseLines` (R254 to R257, O47, O48): its issue, its wait for ATN, and the five steps with the unit alone. -/

namespace Sys2Proof.Machine

variable {s : State} {wait : Bool}

/-! ### The issue (log 6) -/

/-- RELL is admitted in every phase, and releases CLOCK in the step of its issue. -/
theorem exec_rell_issued (hc : s.ctl = .READY) (hb : s.busy = false) :
    exec (.rell wait) s = .next { s.release .CLOCK with ctl := .RL_DATA (.lines wait), busy := true } :=
  operate_admitted hc hb rfl rfl rfl

/-- The issue is the step of the release at RL_CLK. -/
theorem step_rell_issued {w : OpWord} {str : List Byte} (h : s.unitAlone) (hc : s.ctl = .READY) (hb : s.busy = false)
    (hline : s.prog[s.pc]? = some (.op w str)) (hd : decodeOp w = .ok (.rell wait)) :
    step s = step { s with ctl := .RL_CLK (.lines wait), busy := true } := by
  have hclk : step { s with ctl := .RL_CLK (.lines wait), busy := true } =
      .next { s.release .CLOCK with ctl := .RL_DATA (.lines wait), busy := true } :=
    (step_rel (by exact h) rfl rfl).trans rfl
  rw [step_unitAlone h, unitTurn_line hc hline hd, exec_rell_issued hc hb, hclk]

/-! ### The wait for ATN (R62, R254) -/

theorem unitOp_releaseWait (hc : s.ctl = .RL_WAIT wait) : s.unitOp = some (.rell wait) := by rw [State.unitOp, hc]

/-- Without the wait, or with ATN released, RL_WAIT returns. -/
theorem exec_rell_returns (hc : s.ctl = .RL_WAIT wait) (hatn : wait = false ∨ s.level .ATN = .RELEASED) :
    exec (.rell wait) s = releaseReturns s := by
  have hown : exec (.rell wait) s = releaseLinesStep s := operate_own (unitOp_releaseWait hc) _ _ _
  cases wait with
  | false => rw [hown, releaseLinesStep, hc]
  | true =>
    have hseen : s.level .ATN = .RELEASED := hatn.resolve_left Bool.noConfusion
    rw [hown, releaseLinesStep, hc]
    exact waitUntil_seen hseen

theorem exec_rell_hold (hc : s.ctl = .RL_WAIT true) (hs : s.script = []) (hatn : s.level .ATN = .PULLED) :
    exec (.rell true) s = .next s := by
  rw [← unitTurn_own (unitOp_releaseWait hc), unitTurn_releaseWait hc]
  exact waitUntil_hold (level_ne_released.mpr hatn) (.inr hs)

/-- With the unit's ATN register idle, the level of ATN is the host's (R24). -/
theorem level_atn_of_idle (h : s.lines.atn = .idle) : s.level .ATN = s.host.atn := by
  rw [level_atn, h, LineReg.contrib_idle, wiredOr_released]

/-- The unit's step at RL_WAIT, with its own ATN register idle: the host's ATN decides. -/
theorem step_rell_returns (h : s.unitAlone) (hc : s.ctl = .RL_WAIT wait) (hidle : s.lines.atn = .idle)
    (hatn : wait = false ∨ s.host.atn = .RELEASED) : step s = releaseReturns s := by
  rw [step_own h (unitOp_releaseWait hc), exec_rell_returns hc (by rwa [level_atn_of_idle hidle])]

/-! ### The whole operation -/

/-- The state after `releaseLines`: every line floats, and the bus is idle (R255). -/
def State.linesReleased (s : State) : State := { s.busIdle with lines := .idle, pc := s.pc + 1 }

/-- From its issue, `releaseLines` is the four releases and the return. -/
theorem run_rell {w : OpWord} {str : List Byte} (h : s.unitAlone) (hc : s.ctl = .READY) (hb : s.busy = false)
    (hline : s.prog[s.pc]? = some (.op w str)) (hd : decodeOp w = .ok (.rell wait))
    (hatn : wait = false ∨ s.host.atn = .RELEASED) : run 5 s = .next s.linesReleased := by
  have hrelease : run 4 { s with ctl := .RL_CLK (.lines wait), busy := true } =
      .next { s with lines := .idle, ctl := .RL_WAIT wait, busy := true } := run_release (k := .lines wait) (by exact h) rfl
  have hreturn : step { s with lines := .idle, ctl := .RL_WAIT wait, busy := true } = .next s.linesReleased := by
    rw [step_rell_returns (by exact h) rfl rfl (by exact hatn)]
    simp only [releaseReturns, State.finish, State.linesReleased, State.busIdle, hc, hb]
  rw [run_of_step_eq (step_rell_issued h hc hb hline hd) 4, run_add hrelease 1]
  exact run_next hreturn 0

/-- What `releaseLines` leaves, it leaves again: a second call moves the caller alone (R257). -/
theorem linesReleased_twice (s : State) :
    s.linesReleased.linesReleased = { s.linesReleased with pc := s.linesReleased.pc + 1 } := rfl

end Sys2Proof.Machine

open Sys2Proof Sys2Proof.Machine

/-- Settles O47: the five steps from the issue, and the wait, which returns once ATN is released and holds until then. -/
theorem releaseLinesReturnsTheBusToIdle : Obligations.ReleaseLinesReturnsTheBusToIdle := by
  refine fun s wait => ⟨fun hc hb => ⟨exec_rell_issued hc hb, fun w str h hline hd hatn => run_rell h hc hb hline hd hatn⟩,
    fun hc => ⟨exec_rell_returns hc, ?hold, fun hf hs hidle => ?hostReleases⟩⟩
  case hold =>
    rintro rfl
    exact exec_rell_hold hc
  case hostReleases =>
    rw [run_next (step_hSet hf hs)]
    exact run_next (step_rell_returns ⟨rfl, by exact hf⟩ (by exact hc) (by exact hidle) (.inr rfl)) 0

/-- Settles O48: the second call starts from the state the first one left, with the caller at the next line. -/
theorem releaseLinesTwiceIsOnce : Obligations.ReleaseLinesTwiceIsOnce := by
  intro s str1 str2 h hc hb hline1 hline2
  have hdecode : decodeOp 0x19000000#32 = .ok (.rell false) := by rfl
  have hfirst : run 5 s = .next s.linesReleased := run_rell h hc hb hline1 hdecode (.inl rfl)
  have hsecond : run 5 s.linesReleased = .next s.linesReleased.linesReleased :=
    run_rell (by exact h) (by exact hc) (by exact hb) (by exact hline2) hdecode (.inl rfl)
  rw [linesReleased_twice] at hsecond
  exact ⟨s.linesReleased, hfirst, (run_add hfirst 5).trans hsecond, rfl, rfl, h.2, rfl, rfl⟩

end

section
/-! The operations on the Enabled-Device Set (R250 to R253, O44 to O46): the admission of a device, and the bit each one names. -/

namespace Sys2Proof.Machine

variable {s : State} {d : Byte}

/-- A device in range is admitted at READY in every phase (R51, R253). -/
theorem operate_device (hc : s.ctl = .READY) (hb : s.busy = false) (hd : d.toNat ≤ 30) (i : Instr) (c : Ctl)
    (k : State → Out) : operate i (deviceOp d) c k s = k { s with ctl := c, busy := true } :=
  operate_admitted hc hb rfl (decide_eq_true hd) rfl

/-- A device above the range is an argument fault (R253). -/
theorem operate_device_above (hc : s.ctl = .READY) (hb : s.busy = false) (hd : 30 < d.toNat) (i : Instr) (c : Ctl)
    (k : State → Out) : operate i (deviceOp d) c k s = raise .F_BAD_ARG s :=
  issued_bad_arg hc hb rfl (decide_eq_false (Nat.not_le.mpr hd))

/-- ISEN, EN and DIS have the same admission. -/
theorem exec_device {i : Instr} (hi : i = .isen d ∨ i = .en d ∨ i = .dis d) (s : State) :
    ∃ c k, exec i s = operate i (deviceOp d) c k s := by
  rcases hi with rfl | rfl | rfl <;>
  · simp only [exec, execIsen, execEn, execDis]
    exact ⟨_, _, rfl⟩

/-- The mask of a device has that device's bit alone. -/
theorem getLsbD_deviceBit {n : Nat} (hn : n ≤ 30) (k : Nat) : (deviceBit n).getLsbD k = decide (k = n) := by
  have hn : n < 31 := Nat.lt_succ_of_le hn
  rw [deviceBit, ← BitVec.twoPow_eq, BitVec.getLsbD_twoPow, decide_eq_true hn, Bool.true_and]
  exact decide_eq_decide.mpr eq_comm

theorem getLsbD_enable {n : Nat} (hn : n ≤ 30) (e : BitVec 31) (k : Nat) :
    (e ||| deviceBit n).getLsbD k = (e.getLsbD k || decide (k = n)) := by
  rw [BitVec.getLsbD_or, getLsbD_deviceBit hn]

theorem getLsbD_disable {n : Nat} (hn : n ≤ 30) (e : BitVec 31) (k : Nat) :
    (e &&& ~~~deviceBit n).getLsbD k = (e.getLsbD k && !decide (k = n)) := by
  have hwidth : (e.getLsbD k && decide (k < 31)) = e.getLsbD k :=
    Bool.and_eq_left_iff_imp.mpr fun he => decide_eq_true (BitVec.lt_of_getLsbD he)
  rw [BitVec.getLsbD_and, BitVec.getLsbD_not, getLsbD_deviceBit hn, ← Bool.and_assoc, hwidth]

/-- An operation that does nothing but write the set and return moves the caller on, and is at READY again. -/
theorem finish_enabled_issued (hc : s.ctl = .READY) (hb : s.busy = false) (c : Ctl) (e : BitVec 31) :
    State.finish { s with ctl := c, busy := true, enabled := e } = { s with enabled := e, pc := s.pc + 1 } := by
  rw [State.finish, hc, hb]

end Sys2Proof.Machine

open Sys2Proof Sys2Proof.Machine

/-- Settles O44: the device is admitted, and its one step returns the bit. -/
theorem isDeviceEnabledReadsTheBit : Obligations.IsDeviceEnabledReadsTheBit := by
  intro s d hc hb hd
  rw [exec, execIsen, operate_device hc hb hd, State.ret, State.isEnabled, finish_enabled_issued hc hb _ s.enabled]

/-- Settles O45: EN joins the device's mask to the set, DIS takes it out, and the mask has no other bit. -/
theorem enableAndDisableWriteOneBit : Obligations.EnableAndDisableWriteOneBit := by
  intro s d hc hb hd
  refine ⟨⟨s.enabled ||| deviceBit d.toNat, ?en, ?enBit, fun k hk => ?enOther⟩,
    s.enabled &&& ~~~deviceBit d.toNat, ?dis, ?disBit, fun k hk => ?disOther⟩
  case en => rw [exec, execEn, operate_device hc hb hd, finish_enabled_issued hc hb]
  case enBit => rw [getLsbD_enable hd, decide_eq_true rfl, Bool.or_true]
  case enOther => rw [getLsbD_enable hd, decide_eq_false hk, Bool.or_false]
  case dis => rw [exec, execDis, operate_device hc hb hd, finish_enabled_issued hc hb]
  case disBit => rw [getLsbD_disable hd, decide_eq_true rfl, Bool.not_true, Bool.and_false]
  case disOther => rw [getLsbD_disable hd, decide_eq_false hk, Bool.not_false, Bool.and_true]

/-- Settles O46: the argument check refuses the device before any step of the operation. -/
theorem deviceAboveThirtyFaults : Obligations.DeviceAboveThirtyFaults := by
  intro s d i hc hb hd hi
  obtain ⟨c, k, he⟩ := exec_device hi s
  exact he.trans (operate_device_above hc hb hd i c k)

end

section
/-! The state after construction (R300, O1): idle lines contribute RELEASED, and the fault set starts with no reason. -/

namespace Sys2Proof.Machine

@[simp] theorem UnitLines.get_idle (l : DLine) : UnitLines.idle.get l = .idle := by cases l <;> rfl

@[simp] theorem FaultSet.has_empty (x : FaultReason) : FaultSet.empty.has x = false := by cases x <;> rfl

/-- The unit pulls no line right after construction (R22, R23). -/
theorem construct_contrib (p : Params) (h : HostLines) (l : DLine) : (State.construct p h).contrib l = .RELEASED :=
  (congrArg LineReg.contrib (UnitLines.get_idle l)).trans LineReg.contrib_idle

end Sys2Proof.Machine

open Sys2Proof Sys2Proof.Machine

/-- Settles O1: construction writes each row of R300's table as it stands; the contributions and the reasons follow from
the idle lines and the empty fault set. -/
theorem constructionLeavesResetValues : Obligations.ConstructionLeavesResetValues := by
  intro p h
  refine ⟨rfl, ?contributions, rfl, rfl, rfl, rfl, rfl, rfl, ?reasons, rfl, rfl, rfl, rfl⟩
  case contributions => exact construct_contrib p h
  case reasons => exact FaultSet.has_empty

end
